-- ==== Sys2Proof/Word.lean ====
section
/-! DEFINITION. The plain words of the WZ416: bytes and sets as they stand on the line (00_scope.md, "Conventions"),
and the fixed families "one for each of the four stations", "one for each of the nine panels", "one for each result". -/

namespace Sys2Proof

/-- A byte of the serial line. -/
abbrev Byte := BitVec 8

/-- A lane set: bit n stands for panel n (00_scope.md, "Stations, panels, channels and lanes"). -/
abbrev LaneSet := BitVec 9

/-- A set of results, bit n the nth of R95's table from CRISP (R164). -/
abbrev ResultSet := BitVec 10

/-- A station number, 0 to 3. -/
abbrev StationId := Fin 4

/-- A panel or lane number, 0 to 8. -/
abbrev PanelId := Fin 9

/-- One value for each station, or for each corner of a panel. -/
structure Four (α : Type) where
  v0 : α
  v1 : α
  v2 : α
  v3 : α
deriving DecidableEq, Repr

/-- One value for each panel of a station. -/
structure Nine (α : Type) where
  v0 : α
  v1 : α
  v2 : α
  v3 : α
  v4 : α
  v5 : α
  v6 : α
  v7 : α
  v8 : α
deriving DecidableEq, Repr

variable {α β γ : Type}

def Four.all (a : α) : Four α := ⟨a, a, a, a⟩

def Four.get (f : Four α) : StationId → α
  | 0 => f.v0
  | 1 => f.v1
  | 2 => f.v2
  | 3 => f.v3

def Four.set (f : Four α) (i : StationId) (a : α) : Four α :=
  match i with
  | 0 => { f with v0 := a }
  | 1 => { f with v1 := a }
  | 2 => { f with v2 := a }
  | 3 => { f with v3 := a }

def Four.modify (f : Four α) (i : StationId) (g : α → α) : Four α := f.set i (g (f.get i))

def Four.map (f : Four α) (g : α → β) : Four β := ⟨g f.v0, g f.v1, g f.v2, g f.v3⟩

def Four.toList (f : Four α) : List α := [f.v0, f.v1, f.v2, f.v3]

def Four.any (f : Four α) (p : α → Bool) : Bool := p f.v0 || p f.v1 || p f.v2 || p f.v3

def Four.every (f : Four α) (p : α → Bool) : Bool := p f.v0 && p f.v1 && p f.v2 && p f.v3

def Nine.all (a : α) : Nine α := ⟨a, a, a, a, a, a, a, a, a⟩

def Nine.get (f : Nine α) : PanelId → α
  | 0 => f.v0
  | 1 => f.v1
  | 2 => f.v2
  | 3 => f.v3
  | 4 => f.v4
  | 5 => f.v5
  | 6 => f.v6
  | 7 => f.v7
  | 8 => f.v8

def Nine.set (f : Nine α) (i : PanelId) (a : α) : Nine α :=
  match i with
  | 0 => { f with v0 := a }
  | 1 => { f with v1 := a }
  | 2 => { f with v2 := a }
  | 3 => { f with v3 := a }
  | 4 => { f with v4 := a }
  | 5 => { f with v5 := a }
  | 6 => { f with v6 := a }
  | 7 => { f with v7 := a }
  | 8 => { f with v8 := a }

def Nine.modify (f : Nine α) (i : PanelId) (g : α → α) : Nine α := f.set i (g (f.get i))

def Nine.map (f : Nine α) (g : α → β) : Nine β :=
  ⟨g f.v0, g f.v1, g f.v2, g f.v3, g f.v4, g f.v5, g f.v6, g f.v7, g f.v8⟩

/-- Every panel's value made from its number and its old value. -/
def Nine.mapIdx (f : Nine α) (g : PanelId → α → β) : Nine β :=
  ⟨g 0 f.v0, g 1 f.v1, g 2 f.v2, g 3 f.v3, g 4 f.v4, g 5 f.v5, g 6 f.v6, g 7 f.v7, g 8 f.v8⟩

def Nine.toList (f : Nine α) : List α := [f.v0, f.v1, f.v2, f.v3, f.v4, f.v5, f.v6, f.v7, f.v8]

def Nine.any (f : Nine α) (p : α → Bool) : Bool := f.toList.any p

def Nine.every (f : Nine α) (p : α → Bool) : Bool := f.toList.all p

/-- The stations in ascending order. -/
def stationIds : List StationId := [0, 1, 2, 3]

/-- The panels of a station in panel order. -/
def panelIds : List PanelId := [0, 1, 2, 3, 4, 5, 6, 7, 8]

/-- Whether a lane set holds a lane. -/
def LaneSet.has (m : LaneSet) (p : PanelId) : Bool := m.getLsbD p.val

/-- The lanes of a lane set in ascending order. -/
def LaneSet.lanes (m : LaneSet) : List PanelId := panelIds.filter (LaneSet.has m)

/-- The lane set of one lane. -/
def LaneSet.single (p : PanelId) : LaneSet := 1#9 <<< p.val

/-- The results a tally scores, in the order of R95's table. VOID is not one of them (R94). -/
inductive Result where
  | crisp | solid | fair | loose | poor | miss | held | dropped | mineHit | mineAvoided
deriving DecidableEq, Repr

/-- One value for each result of R95's table. -/
structure PerResult (α : Type) where
  crisp : α
  solid : α
  fair : α
  loose : α
  poor : α
  miss : α
  held : α
  dropped : α
  mineHit : α
  mineAvoided : α
deriving DecidableEq, Repr

def PerResult.all (a : α) : PerResult α := ⟨a, a, a, a, a, a, a, a, a, a⟩

def PerResult.get (f : PerResult α) : Result → α
  | .crisp => f.crisp
  | .solid => f.solid
  | .fair => f.fair
  | .loose => f.loose
  | .poor => f.poor
  | .miss => f.miss
  | .held => f.held
  | .dropped => f.dropped
  | .mineHit => f.mineHit
  | .mineAvoided => f.mineAvoided

def PerResult.set (f : PerResult α) (r : Result) (a : α) : PerResult α :=
  match r with
  | .crisp => { f with crisp := a }
  | .solid => { f with solid := a }
  | .fair => { f with fair := a }
  | .loose => { f with loose := a }
  | .poor => { f with poor := a }
  | .miss => { f with miss := a }
  | .held => { f with held := a }
  | .dropped => { f with dropped := a }
  | .mineHit => { f with mineHit := a }
  | .mineAvoided => { f with mineAvoided := a }

def PerResult.map (f : PerResult α) (g : α → β) : PerResult β :=
  ⟨g f.crisp, g f.solid, g f.fair, g f.loose, g f.poor, g f.miss, g f.held, g f.dropped, g f.mineHit,
    g f.mineAvoided⟩

def PerResult.toList (f : PerResult α) : List α :=
  [f.crisp, f.solid, f.fair, f.loose, f.poor, f.miss, f.held, f.dropped, f.mineHit, f.mineAvoided]

end Sys2Proof
end

