-- ==== Sys2Proof/Syntax.lean ====
section
/-! DEFINITION. The commands of the WZ416: one constructor for each row of spec/opcode_table.json, in the table's order.
A request row stands for one complete frame with a good check that carries it (R171), so it has the frame's TAG and the
fields of its payload in the sizes of R175 (entry 12). A row of the part's own scheduler names the station or panel it
concerns. -/

namespace Sys2Proof

/-- The payload of CONFIG_JUDGE after its selector (R42). -/
structure JudgeFields where
  w1 : BitVec 32
  w2 : BitVec 32
  w3 : BitVec 32
  w4 : BitVec 32
  w5 : BitVec 32
  wm : BitVec 32
  offset : BitVec 32
deriving DecidableEq, Repr

/-- One row of CONFIG_SCORING's payload (R96). -/
structure ScoreField where
  points : BitVec 16
  life : BitVec 16
deriving DecidableEq, Repr

/-- The payload of CONFIG_PANELS (R156, R175). -/
structure PanelFields where
  selector : Byte
  panels : BitVec 16
  tOn : BitVec 16
  tOff : BitVec 16
  dOn : Byte
  dOff : Byte
  stuckTime : Byte
  occupancyAge : BitVec 16
deriving DecidableEq, Repr

/-- The payload of CONFIG_COMBO (R160, R175). -/
structure ComboFields where
  selector : Byte
  lanes : BitVec 16
  holdTime : Byte
  flags : Byte
deriving DecidableEq, Repr

/-- The payload of SET_LAMPS (R164). -/
structure LampFields where
  selector : Byte
  panels : BitVec 16
  mode : Byte
  level : Byte
  duration : BitVec 16
  results : BitVec 16
  period : BitVec 32
  duty : Byte
  phase : BitVec 32
deriving DecidableEq, Repr

/-- The payload of LOAD_STATION (R1, R175). -/
structure LoadFields where
  station : Byte
  mask : BitVec 16
  units : BitVec 32
  startLife : BitVec 16
  flags : Byte
deriving DecidableEq, Repr

/-- A station's 36 samples of one scan: panel by panel, corner by corner (R130). -/
abbrev Samples := Nine (Four (BitVec 12))

/-- The commands of the part. -/
inductive Instr where
  /-- POWER_ON (R179). -/
  | powerOn
  /-- PIN_RESET_ASSERT (R179). -/
  | pinResetAssert
  /-- PIN_RESET_RELEASE (R179). -/
  | pinResetRelease
  /-- RX_BYTE (R170): the byte that arrived. -/
  | rxByte (b : Byte)
  /-- GAP_TIMEOUT (R170). -/
  | gapTimeout
  /-- CONFIG_TIMING (R114). -/
  | configTiming (tag : Byte) (rate tolerance : BitVec 32)
  /-- CONFIG_JUDGE (R42). -/
  | configJudge (tag : Byte) (selector : Byte) (fields : JudgeFields)
  /-- CONFIG_HOLDS (R91). -/
  | configHolds (tag : Byte) (grace rollGap : BitVec 32)
  /-- CONFIG_SCORING (R96). -/
  | configScoring (tag : Byte) (rows : PerResult ScoreField)
  /-- CONFIG_PANELS (R156). -/
  | configPanels (tag : Byte) (fields : PanelFields)
  /-- CONFIG_COMBO (R160). -/
  | configCombo (tag : Byte) (fields : ComboFields)
  /-- CONFIG_REPORTS (R187). -/
  | configReports (tag : Byte) (stations : Byte)
  /-- SET_LAMPS (R164). -/
  | setLamps (tag : Byte) (fields : LampFields)
  /-- LOAD_STATION (R1). -/
  | loadStation (tag : Byte) (fields : LoadFields)
  /-- NOTE_BLOCK (R26): its payload as it stands on the line, since R27 checks its lengths. -/
  | noteBlock (tag : Byte) (payload : List Byte)
  /-- CHART_END (R6). -/
  | chartEnd (tag : Byte) (station : Byte) (endTime : BitVec 32)
  /-- ABORT_SONG (R12). -/
  | abortSong (tag : Byte) (stations : Byte)
  /-- CLEAR_STATION (R19). -/
  | clearStation (tag : Byte) (station : Byte)
  /-- ARM_PRESENCE (R158). -/
  | armPresence (tag : Byte) (station : Byte)
  /-- SEED_BASELINE (R141). -/
  | seedBaseline (tag : Byte) (station : Byte)
  /-- START_SONG (R118). -/
  | startSong (tag : Byte) (start : BitVec 32)
  /-- STOP_SONG (R121). -/
  | stopSong (tag : Byte)
  /-- ANCHOR (R122). -/
  | anchor (tag : Byte) (time : BitVec 32)
  /-- GET_STATUS (R177): the section and station bytes. -/
  | getStatus (tag : Byte) (sect station : Byte)
  /-- GET_TALLY (R107). -/
  | getTally (tag : Byte) (station : Byte)
  /-- GET_RESULT (R108). -/
  | getResult (tag : Byte) (station : Byte)
  /-- GET_SENSORS (R142). -/
  | getSensors (tag : Byte) (station : Byte)
  /-- GET_FAULTS (R143). -/
  | getFaults (tag : Byte)
  /-- GET_LINK_COUNTS (R178). -/
  | getLinkCounts (tag : Byte)
  /-- RESET_PLAY (R180). -/
  | resetPlay (tag : Byte)
  /-- TX_FRAME_BEGIN (R174). -/
  | txFrameBegin
  /-- TX_FRAME_END (R174). -/
  | txFrameEnd
  /-- AUDCLK_EDGE (R112). -/
  | audclkEdge
  /-- HOLDOVER_TICK (R115). -/
  | holdoverTick
  /-- LOSS_TIMER_EXPIRY (R115). -/
  | lossTimerExpiry
  /-- SOURCE_RETURN (R116). -/
  | sourceReturn
  /-- NOTE_CLOSE (R59). -/
  | noteClose (station : StationId)
  /-- HEAD_CLOSE (R60). -/
  | headClose (station : StationId)
  /-- MINE_CHECK (R62). -/
  | mineCheck (station : StationId)
  /-- MINE_CLOSE (R63). -/
  | mineClose (station : StationId)
  /-- EFFECTIVE_END_REACHED (R84). -/
  | effectiveEndReached (station : StationId)
  /-- HOLD_DEADLINE_REACHED (R83). -/
  | holdDeadlineReached (station : StationId)
  /-- SYNTHETIC_PRESS (R69). -/
  | syntheticPress (station : StationId)
  /-- SYNTHETIC_RELEASE (R71). -/
  | syntheticRelease (station : StationId)
  /-- ROLL_PRESS (R71). -/
  | rollPress (station : StationId)
  /-- STARVATION (R36). -/
  | starvation (station : StationId)
  /-- SONG_END_REACHED (R9). -/
  | songEndReached (station : StationId)
  /-- SCAN_START (R131). -/
  | scanStart
  /-- SCAN_COMPLETE (R132): the station and its 36 samples. -/
  | scanComplete (station : StationId) (samples : Samples)
  /-- BASELINE_LEARN (R134). -/
  | baselineLearn
  /-- CHANNEL_BLOCK_END (R137). -/
  | channelBlockEnd
  /-- PRESS_CONFIRM (R147). -/
  | pressConfirm (station : StationId) (panel : PanelId)
  /-- RELEASE_CONFIRM (R148). -/
  | releaseConfirm (station : StationId) (panel : PanelId)
  /-- STUCK_EXIT (R152). -/
  | stuckExit (station : StationId) (panel : PanelId)
  /-- PANEL_STUCK (R151). -/
  | panelStuck (station : StationId) (panel : PanelId)
  /-- OCCUPANCY_VACANT (R157). -/
  | occupancyVacant (station : StationId)
  /-- SERVICE_COMBO (R159). -/
  | serviceCombo (station : StationId)
  /-- FLASH_END (R166). -/
  | flashEnd (station : StationId) (panel : PanelId)
  /-- PWM_PERIOD_START (R163). -/
  | pwmPeriodStart
  /-- LAMP_CHAIN_LATCH (R182). -/
  | lampChainLatch
  /-- POWER_LOSS (R174). -/
  | powerLoss
deriving DecidableEq, Repr

end Sys2Proof
end

