-- ==== Sys2Proof/Decode.lean ====
section
/-! DEFINITION. The command a word spells by the bits of spec/opcode_table.json. Every one of its 61 rows has an empty list of
fields: the table gives no row any bits, so no word spells a command (entry 33). Commands that travel as bytes are read by the
receiver (`rxByte`, `takeFrame` in Machine/Line.lean). -/

namespace Sys2Proof

/-- The command that a word spells: none, since no row of the table has bits (entry 33). -/
def decodeTableWord (_nbits _w : Nat) : Option Instr := none

end Sys2Proof
end

