-- ==== Sys2Proof/Config.lean ====
section
/-! DEFINITION. What the WZ416 fixes: capacities, margins, periods, ranges and the limits of song time. The part has no
implementation option and the spec leaves no result open; the one constant without a value stands for what the converters give
where a command does not carry it. -/

namespace Sys2Proof.Config

/-- A sample of a converter that no command carries: a free value, the `n`th the part has taken so (entry 24). -/
opaque freeSample : Nat → BitVec 12

/-- The bottom of song time (00_scope.md, "Two clocks"). -/
def tMin : Int := -2147483648

/-- The top of song time (R111). -/
def tMax : Int := 2147483647

/-- Records a note queue holds at most (R22). -/
def queueCapacity : Nat := 192

/-- The free count at which feed advice is due (R35). -/
def adviceLevel : Nat := 96

/-- Notes a NOTE_BLOCK carries at most (R27). -/
def blockMax : Nat := 16

/-- The settle margin, in µs of song time (R44, R73). -/
def settleMargin : Int := 2000

/-- How long after its press a synthetic tap press is released (R71). -/
def tapHold : Int := 40000

/-- The saturation of every 16-bit count (R93, R178). -/
def countMax : Nat := 65535

/-- The saturation of E (R98). -/
def pointsMax : Nat := 4294967295

/-- The top of life, and the top of the loaded start life (R1, R100). -/
def lifeMax : Nat := 1000

/-- The top of U (R1). -/
def unitsMax : Nat := 1000000

/-- The top of S (R103). -/
def scoreMax : Nat := 1000000

/-- Replies the reply queue holds at most (R173). -/
def replyCapacity : Nat := 8

/-- Replies sent in a row while a report waits (R174). -/
def replyRunMax : Nat := 4

/-- Records the report queue holds at most (R183). -/
def reportCapacity : Nat := 96

/-- The saturation of the pending lost count (R185). -/
def lostMax : Nat := 255

/-- The part revision that READY carries (R179). -/
def revision : Byte := 0x01

/-- SYNC, the first byte of every frame (R169). -/
def sync : Byte := 0xC3

/-- The largest LENGTH of a frame (R169). -/
def payloadMax : Nat := 248

/-- The KIND of every reply (R169). -/
def replyKind : Byte := 0x40

/-- Crystal periods in one local microsecond (00_scope.md, "Two clocks"). -/
def crystalPerMicro : Nat := 12

/-- Bit times that one byte lasts on the line, start and stop bit among them (R170). -/
def byteBits : Nat := 10

/-- Crystal periods of one bit time of the line, 1 µs (section 10.1). -/
def bitTime : Nat := 12

/-- The gap timer's limit, 1,000 local µs in crystal periods (R170). -/
def gapLimit : Nat := 12000

/-- The loss timer's limit, 1,000 local µs in crystal periods (R115). -/
def lossLimit : Nat := 12000

/-- The count of well-spaced edges that returns the source to EXTERNAL (R116). -/
def edgeRunGoal : Nat := 256

/-- The scan period, in local µs (R130). -/
def scanPeriod : Nat := 250

/-- Local µs the channel-select bus stays on each channel (R182). -/
def selectMicros : Nat := 6

/-- Local µs of a scan in which the bus steps through its channels (R182). -/
def selectSpan : Nat := 216

/-- The PWM period, in local µs (R163). -/
def pwmPeriod : Nat := 1000

/-- Crystal periods of one period of LCLK, at 6 MHz (R182). -/
def lclkPeriod : Nat := 2

/-- Bits on LDAT in a PWM period: 36 values of 10 bits (R182). -/
def chainBits : Nat := 360

/-- Local µs from a PWM period's start to the latch pulse (R182). -/
def latchDelay : Nat := 100

/-- The top of a rail count (section 7.2). -/
def railTop : Nat := 1000

/-- A rail sample is this or less (R136). -/
def railLow : Nat := 15

/-- A rail sample is this or more (R136). -/
def railHigh : Nat := 4080

/-- The rail count that fails a channel at a block's end (R137). -/
def railFail : Nat := 915

/-- The rail count at or below which a FAULTY channel recovers (R138). -/
def railRecover : Nat := 10

/-- The learning phase in which baselines are learned (R134). -/
def learnPhase : Nat := 15

/-- The block position at which a block ends (R136). -/
def blockEnd : Nat := 999

end Sys2Proof.Config
end

