-- ==== Sys2Proof/Machine/State.lean ====
section
/-! DEFINITION. The state of the WZ416, block by block, as plain data; the power-on value of each block; the reasons a step
can stop. Song times are integers (R44 computes them exactly), counts and local times naturals, bits and bytes of the line
bit vectors. `Play` gathers the blocks that the settlement of a note can change, so that what a settlement leaves alone is
plain from its type. -/

namespace Sys2Proof.Machine

/-! ### Station play control (chapter 1) -/

/-- The five station states (R18). -/
inductive StationState where
  | idle | loaded | running | draining | finished
deriving DecidableEq, Repr

/-- How a station's song ended (R106). -/
inductive SongOutcome where
  | cleared | failed | aborted
deriving DecidableEq, Repr

/-! ### Note queues (chapter 2) -/

/-- The kind of a note, with the end time that HOLD and ROLL alone have (R21). -/
inductive NoteKind where
  | tap
  | hold (endTime : Int)
  | roll (endTime : Int)
  | mine
deriving DecidableEq, Repr

/-- One lane hit of a jump: the lane and the press's delta (R21, R55). -/
structure LaneHit where
  lane : PanelId
  delta : Int
deriving DecidableEq, Repr

/-- A note record (R21). Its status is PARTIAL when it holds a lane hit and PENDING otherwise. `checkTaken` and
`pressTaken` say that a mine's check, or the synthetic press made for the note, has been taken (R45, R66; entry 20). -/
structure NoteRecord where
  id : BitVec 16
  time : Int
  kind : NoteKind
  lanes : LaneSet
  laneHits : List LaneHit
  touched : Bool
  checkTaken : Bool
  pressTaken : Bool
deriving DecidableEq, Repr

/-- The horizon H (R33). -/
inductive Horizon where
  | unset
  | value (h : Int)
  | unbounded
deriving DecidableEq, Repr

/-- A station's note queue and feed (R39). The queue's front is the list's head (R22). -/
structure Feed where
  queue : List NoteRecord
  horizon : Horizon
  tailTime : Option Int
  chartComplete : Bool
  songEnd : Option Int
  starved : Bool
deriving DecidableEq, Repr

/-! ### Judge and hold table (chapters 3 and 4) -/

/-- A station's judge configuration (R41), in µs. -/
structure JudgeConfig where
  w1 : Nat
  w2 : Nat
  w3 : Nat
  w4 : Nat
  w5 : Nat
  wm : Nat
  offset : Int
deriving DecidableEq, Repr

/-- The state of a hold-table entry, with the deadline that LET_GO and ROLLING alone have (R75). ROLLING is a ROLL's
state, the other two a HOLD's. -/
inductive EntryState where
  | holding
  | letGo (deadline : Int)
  | rolling (deadline : Int)
deriving DecidableEq, Repr

/-- A hold-table entry (R75); its lane is the place it stands at. `nextPress` is the next synthetic roll press of an
autoplay ROLL (R71; entry 20). -/
structure HoldEntry where
  id : BitVec 16
  effectiveEnd : Int
  state : EntryState
  nextPress : Option Int
deriving DecidableEq, Repr

/-- The synthetic state of one lane of an autoplay station (R68). -/
structure SynthLane where
  pressed : Bool
  pendingRelease : Option Int
deriving DecidableEq, Repr

/-! ### Tally (chapter 5) -/

/-- A station's result record (R106); its station is the place it stands at. `units` is U, which R102 has the record carry; its
form on the line has no field for it (R181; entry 36). -/
structure ResultRecord where
  outcome : SongOutcome
  counts : PerResult Nat
  voids : Nat
  strays : Nat
  discarded : Nat
  maxCombo : Nat
  points : Nat
  units : Nat
  score : Nat
  life : Nat
  overUnits : Bool
deriving DecidableEq, Repr

/-- A station's tally (R93): `points` is E, `units` is U, `score` is S. -/
structure Tally where
  counts : PerResult Nat
  voids : Nat
  strays : Nat
  discarded : Nat
  points : Nat
  units : Nat
  combo : Nat
  maxCombo : Nat
  life : Nat
  score : Nat
  overUnits : Bool
  record : Option ResultRecord
deriving DecidableEq, Repr

/-- One row of the scoring table (R95). -/
structure ScoreRow where
  points : Nat
  life : Int
deriving DecidableEq, Repr

/-- All that one station's play holds. -/
structure Station where
  state : StationState
  outcome : Option SongOutcome
  laneMask : Option LaneSet
  autoplay : Bool
  failEnable : Bool
  feed : Feed
  judge : JudgeConfig
  holds : Nine (Option HoldEntry)
  synth : Nine SynthLane
  tally : Tally
deriving DecidableEq, Repr

/-! ### Song timeline (chapter 6) -/

/-- The timeline state (R110). -/
inductive TimelineState where
  | stopped | starting | running
deriving DecidableEq, Repr

/-- Whether T runs on AUDCLK or on the crystal (R115). -/
inductive Source where
  | external | holdover
deriving DecidableEq, Repr

/-- How the latest anchors have agreed with T (R123). -/
inductive Lock where
  | free | locked | suspect
deriving DecidableEq, Repr

/-- The song timeline (section 6.1). `t` is T, `r` is R, `rate` is F. `startTime` is the T0 of the song under way, which
R36 compares with while H is unset (entry 19). `lossTimer` runs in crystal periods
while the source is EXTERNAL (R115). -/
structure Timeline where
  state : TimelineState
  t : Int
  r : Nat
  pendingStart : Option Int
  startTime : Int
  source : Source
  lastEdge : Option Nat
  edgeRun : Nat
  lossTimer : Nat
  lock : Lock
  badAnchors : Nat
  rate : Nat
  tolerance : Nat
deriving DecidableEq, Repr

/-! ### Report queue (chapter 11) -/

/-- What a JUDGE report gives as its result: a scored result, or VOID (R31, R181). -/
inductive Verdict where
  | scored (r : Result)
  | void
deriving DecidableEq, Repr

/-- The cause a READY report carries (R186). -/
inductive ResetCause where
  | power | pin | command
deriving DecidableEq, Repr

/-- The event a TIMELINE report carries (R128, R186). -/
inductive TimelineEvent where
  | started | stopped | sourceChange | lockChange | step
deriving DecidableEq, Repr

/-- The event a FAULT report carries (R186). -/
inductive FaultEvent where
  | channelFaulty | channelRecovered | panelStuck | panelDead
deriving DecidableEq, Repr

/-- The fields of each report kind after its stamp (R186). -/
inductive ReportBody where
  | ready (cause : ResetCause)
  | judge (station : StationId) (id : BitVec 16) (lanes : LaneSet) (verdict : Verdict)
      (autoplay afterStep overUnits : Bool) (combo life score : Nat) (delta : Option Int)
  | holdEnd (station : StationId) (id : BitVec 16) (lane : PanelId) (result : Result) (combo life score : Nat)
  | mine (station : StationId) (id : BitVec 16) (lane : PanelId) (result : Result) (life : Nat)
  | station (station : StationId) (state : StationState) (outcome : Option SongOutcome)
  | result (station : StationId) (record : ResultRecord)
  | feed (station : StationId) (free : Nat) (horizon : Horizon) (starved : Bool)
  | timeline (event : TimelineEvent) (t : Int) (source : Source) (lock : Lock) (step : Int)
  | fault (station : StationId) (item : Nat) (event : FaultEvent)
  | service (station : StationId)
  | presence (station : StationId) (vacant : Bool)
  | press (station : StationId) (panel : PanelId) (edgeStamp : Int)
  | release (station : StationId) (panel : PanelId) (edgeStamp : Int)
deriving DecidableEq, Repr

/-- A report record (R183): its stamp and its fields. -/
structure Report where
  stamp : Int
  body : ReportBody
deriving DecidableEq, Repr

/-- The report queue, its pending lost count, the reports-lost link counter it raises (R184) and the press-report enables
(R187). -/
structure ReportQueue where
  records : List Report
  pendingLost : Nat
  reportsLost : Nat
  pressEnables : Four Bool
deriving DecidableEq, Repr

/-! ### Lamps (chapter 9) -/

/-- A lamp's mode with the settings it has in that mode (section 9.1). The flash remaining counts crystal periods, twelve to the
local microsecond (R166; entry 37). -/
inductive LampMode where
  | off
  | steady (level : Nat)
  | follow (level : Nat)
  | flash (level durationMs : Nat) (results : ResultSet) (remaining : Nat)
  | beat (level period duty : Nat) (phase : Int)
deriving DecidableEq, Repr

/-- A lamp: its mode, its demand (lit or dark) and its on-time in local µs. -/
structure Lamp where
  mode : LampMode
  lit : Bool
  onTime : Nat
deriving DecidableEq, Repr

/-- The PWM period counter, as local µs to the next period start; the values on the lamp chain; the values the station boards
latched last; and the crystal periods for which LCLK still shifts and LLAT is still high (R163, R182; entries 18, 28). -/
structure LampDrive where
  countdown : Nat
  chain : Four (Nine Nat)
  latched : Four (Nine Nat)
  shiftLeft : Nat
  latchLeft : Nat
deriving DecidableEq, Repr

/-! ### The blocks a settlement can change -/

/-- Timeline, stations, lamps, report queue and the part-wide play settings. `afterStep` marks the settlement of a forward
step (R58, R65; entry 20), and `periodBegun` the crystal period in which a PWM period has begun (R166; entry 37). -/
structure Play where
  timeline : Timeline
  stations : Four Station
  lamps : Four (Nine Lamp)
  reports : ReportQueue
  scoring : PerResult ScoreRow
  grace : Nat
  rollGap : Nat
  afterStep : Bool
  periodBegun : Bool
deriving DecidableEq, Repr

/-! ### Sensor scanner (chapter 7) -/

/-- A channel record (section 7.2). -/
structure Channel where
  raw : Nat
  b16 : Nat
  faulty : Bool
  seedPending : Bool
  railCount : Nat
  latch : Bool
  load : Nat
deriving DecidableEq, Repr

/-- One station's channels, with the panel loads and the stamp of its last completed scan (R142). -/
structure ScanStation where
  channels : Nine (Four Channel)
  loads : Nine Nat
  stamp : Int
deriving DecidableEq, Repr

/-- The scanner: its stations, the two counters that serve all channels (R132), the stamp of the scan under way (R131), the
stations whose samples of that scan are not yet in (entry 23), the panels that were RELEASED at its start (R134, R155), and the
local µs to the next scan start (R130). -/
structure Scanner where
  stations : Four ScanStation
  learnPhase : Nat
  blockPos : Nat
  scanStamp : Int
  waiting : Four Bool
  rested : Four (Nine Bool)
  countdown : Nat
deriving DecidableEq, Repr

/-! ### Panel unit (chapter 8) -/

/-- A panel's state, with the run stamp and run count, or exit count, that it has in that state (R145). -/
inductive PanelState where
  | released
  | pressing (stamp : Int) (count : Nat)
  | pressed
  | releasing (stamp : Int) (count : Nat)
  | stuck (exitCount : Nat)
  | dead
deriving DecidableEq, Repr

/-- A panel's settings (R156). -/
structure PanelConfig where
  tOn : Nat
  tOff : Nat
  dOn : Nat
  dOff : Nat
  stuckTime : Nat
deriving DecidableEq, Repr

/-- A panel record (R145). -/
structure Panel where
  state : PanelState
  stuckTimer : Nat
  stuckLatch : Bool
  config : PanelConfig
deriving DecidableEq, Repr

/-- One station's panel unit (R145). The occupancy age and combo hold time are in seconds, the timers in local µs. -/
structure PanelStation where
  panels : Nine Panel
  occupied : Bool
  occupancyTimer : Nat
  occupancyAge : Nat
  armed : Bool
  comboLanes : LaneSet
  comboHold : Nat
  comboAbort : Bool
  comboTimer : Nat
  comboSpent : Bool
deriving DecidableEq, Repr

/-! ### Link port (chapter 10) -/

/-- The receiver (R170): the bytes of the frame after its SYNC. -/
inductive RxState where
  | hunting
  | inFrame (bytes : List Byte)
deriving DecidableEq, Repr

/-- The transmitter (R174): the frame in progress, and the crystal periods until it ends. -/
inductive TxState where
  | idle
  | sending (frame : List Byte) (left : Nat)
deriving DecidableEq, Repr

/-- The reply status codes (R176). -/
inductive Status where
  | ok | busy | badArg | badLength | unknown | full | order | badNote | badLane | badWindows | tooLate
deriving DecidableEq, Repr

/-- What an owner answers to a request: status, clamped flag and result bytes (R172). -/
structure Answer where
  status : Status
  clamped : Bool
  bytes : List Byte
deriving DecidableEq, Repr

/-- A reply in the reply queue: the kind and TAG of its request, and the answer (R172). -/
structure Reply where
  kind : Byte
  tag : Byte
  answer : Answer
deriving DecidableEq, Repr

/-- The link port (chapter 10). The gap timer counts crystal periods (R170). `rest` is the crystal periods of idle line that a
frame which has ended still asks for (R174; entry 34). The sixth link counter, reports lost, stands in `ReportQueue`. -/
structure Link where
  rx : RxState
  gapTimer : Nat
  replies : List Reply
  tx : TxState
  rest : Nat
  replyRun : Nat
  accepted : Nat
  crcErrors : Nat
  lengthErrors : Nat
  gapTimeouts : Nat
  overruns : Nat
deriving DecidableEq, Repr

/-! ### The part -/

/-- The whole part. `pending` is the queue of commands that wait, the first at its head. `draws` counts the stations whose scans
were completed by samples that no command carried (entry 24). -/
structure State where
  pending : List Instr
  draws : Nat
  powered : Bool
  rstN : Bool
  localTime : Nat
  play : Play
  scanner : Scanner
  panels : Four PanelStation
  drive : LampDrive
  link : Link
deriving DecidableEq, Repr

/-- Why the part would stop with a fault. It never does: every rule of the spec gives its event an effect, so the type has
no constructor. -/
inductive Fault where
deriving DecidableEq, Repr

/-- Why a command would have no meaning. -/
inductive Refusal where
  /-- Raised by `exec` for a command that is not modelled; no command is. Safe: the model stops. -/
  | notModelled (mnemonic : String)
deriving DecidableEq, Repr

/-! ### Power-on values -/

/-- The defaults of section 3.1 (R41). -/
def JudgeConfig.default : JudgeConfig :=
  { w1 := 22500, w2 := 45000, w3 := 90000, w4 := 135000, w5 := 180000, wm := 45000, offset := 0 }

/-- The note queue's values after a reset and after LOAD_STATION (R40). -/
def Feed.empty : Feed :=
  { queue := [], horizon := .unset, tailTime := none, chartComplete := false, songEnd := none, starved := false }

/-- Every item of the tally zero or clear (R93, R109). -/
def Tally.zero : Tally :=
  { counts := .all 0, voids := 0, strays := 0, discarded := 0, points := 0, units := 0, combo := 0, maxCombo := 0,
    life := 0, score := 0, overUnits := false, record := none }

/-- A lane with no synthetic press (R68). -/
def SynthLane.released : SynthLane := { pressed := false, pendingRelease := none }

/-- A station in IDLE with the given judge configuration (R20, R40, R74, R92, R109). -/
def Station.idle (judge : JudgeConfig) : Station :=
  { state := .idle, outcome := none, laneMask := none, autoplay := false, failEnable := false, feed := .empty,
    judge := judge, holds := .all none, synth := .all .released, tally := .zero }

/-- The timeline's power-on values (R129; entries 19 and 32). -/
def Timeline.reset : Timeline :=
  { state := .stopped, t := 0, r := 0, pendingStart := none, startTime := 0, source := .holdover, lastEdge := none,
    edgeRun := 0, lossTimer := 0, lock := .free, badAnchors := 0, rate := 48000, tolerance := 4000 }

/-- The default scoring table (R95). -/
def defaultScoring : PerResult ScoreRow :=
  { crisp := ⟨3, 8⟩, solid := ⟨2, 8⟩, fair := ⟨1, 4⟩, loose := ⟨0, 0⟩, poor := ⟨0, -40⟩, miss := ⟨0, -80⟩,
    held := ⟨3, 8⟩, dropped := ⟨0, -80⟩, mineHit := ⟨0, -50⟩, mineAvoided := ⟨0, 0⟩ }

/-- A lamp in OFF, dark (R168). -/
def Lamp.dark : Lamp := { mode := .off, lit := false, onTime := 0 }

/-- The report queue after power-on or pin reset: one READY record with the cause, stamped with T = 0 (R188). -/
def ReportQueue.reset (cause : ResetCause) : ReportQueue :=
  { records := [{ stamp := 0, body := .ready cause }], pendingLost := 0, reportsLost := 0, pressEnables := .all false }

/-- The play blocks after power-on or pin reset. -/
def Play.reset (cause : ResetCause) : Play :=
  { timeline := .reset, stations := .all (.idle .default), lamps := .all (.all .dark), reports := .reset cause,
    scoring := defaultScoring, grace := 250000, rollGap := 300000, afterStep := false,
    periodBegun := false }

/-- A channel after power-on or pin reset (R144). -/
def Channel.reset : Channel :=
  { raw := 0, b16 := 0, faulty := false, seedPending := true, railCount := 0, latch := false, load := 0 }

/-- The scanner after power-on or pin reset (R144): its first scan begins at the end of the reset (R130; entry 26). -/
def Scanner.reset : Scanner :=
  { stations := .all { channels := .all (.all .reset), loads := .all 0, stamp := 0 }, learnPhase := 0, blockPos := 0,
    scanStamp := 0, waiting := .all false, rested := .all (.all false), countdown := 0 }

/-- The default panel settings (R156). -/
def PanelConfig.default : PanelConfig := { tOn := 600, tOff := 400, dOn := 2, dOff := 3, stuckTime := 20 }

/-- A station's panel unit after power-on or pin reset (R162). -/
def PanelStation.reset : PanelStation :=
  { panels := .all { state := .released, stuckTimer := 0, stuckLatch := false, config := .default }, occupied := false,
    occupancyTimer := 0, occupancyAge := 30, armed := false, comboLanes := 0, comboHold := 3, comboAbort := false,
    comboTimer := 0, comboSpent := false }

/-- The link port after power-on or pin reset (R179). -/
def Link.reset : Link :=
  { rx := .hunting, gapTimer := 0, replies := [], tx := .idle, rest := 0, replyRun := 0, accepted := 0, crcErrors := 0,
    lengthErrors := 0, gapTimeouts := 0, overruns := 0 }

/-- The lamp chain after power-on or pin reset; what the station boards have latched is outside the part (R168, R182). -/
def LampDrive.reset (latched : Four (Nine Nat)) : LampDrive :=
  { countdown := 0, chain := .all (.all 0), latched := latched, shiftLeft := 0, latchLeft := 0 }

/-- The part right after power-on: no command waits, RST_N is high, and READY with cause POWER stands in the report queue
(R179, R188; entries 1, 18 and 24). -/
def State.reset : State :=
  { pending := [], draws := 0, powered := true, rstN := true, localTime := 0, play := .reset .power, scanner := .reset,
    panels := .all .reset, drive := .reset (.all (.all 0)),
    link := .reset }

end Sys2Proof.Machine
end

