-- ==== Sys2Proof/Machine/Operands.lean ====
section
/-! DEFINITION. The operand forms of the requests: reading fields of a payload, station numbers and selectors, lane sets and
station sets, and the clamping of settings (00_scope.md, "Fields on the line"; R172, R175). -/

namespace Sys2Proof.Machine

/-! ### Reading fields, least significant byte first -/

/-- The unsigned number that bytes spell, least significant byte first. -/
def leNat : List Byte → Nat
  | [] => 0
  | b :: bs => b.toNat + 256 * leNat bs

/-- The `size` bytes at `offset` of a payload, as one number. -/
def field (payload : List Byte) (offset size : Nat) : Nat := leNat ((payload.drop offset).take size)

def field8 (payload : List Byte) (offset : Nat) : Byte := BitVec.ofNat 8 (field payload offset 1)

def field16 (payload : List Byte) (offset : Nat) : BitVec 16 := BitVec.ofNat 16 (field payload offset 2)

def field32 (payload : List Byte) (offset : Nat) : BitVec 32 := BitVec.ofNat 32 (field payload offset 4)

/-! ### Stations, selectors and sets -/

/-- The station a station byte names; none above 3. -/
def stationOf (b : Byte) : Option StationId :=
  if h : b.toNat < 4 then some ⟨b.toNat, h⟩ else none

/-- The stations a selector names: one of 0 to 3, or all four for 0xFF (R42, R156, R160, R164). -/
def selected (b : Byte) : Option (List StationId) :=
  if b = 0xFF then some stationIds else (stationOf b).map fun i => [i]

/-- The lane set of a 16-bit field, whose bits 9 to 15 are ignored (R1, R27, R156, R160, R164). -/
def laneField (w : BitVec 16) : LaneSet := w.setWidth 9

/-- The stations of a station set, whose bits 4 to 7 are ignored (R12, R187). -/
def stationSet (b : Byte) : List StationId := stationIds.filter fun i => b.getLsbD i.val

/-! ### Clamping -/

/-- A number brought to the nearest end of its range. -/
def clampNat (lo hi n : Nat) : Nat := max lo (min hi n)

/-- An integer brought to the nearest end of its range. -/
def clampInt (lo hi n : Int) : Int := max lo (min hi n)

/-- A song time brought into the range of T (R149). -/
def clampTime (t : Int) : Int := clampInt Config.tMin Config.tMax t

/-- A clamped setting: the value stored, and whether it was clamped. -/
structure Setting where
  value : Nat
  clamped : Bool
deriving DecidableEq, Repr

/-- A setting brought into its range, with its mark. -/
def setting (lo hi n : Nat) : Setting := { value := clampNat lo hi n, clamped := decide (clampNat lo hi n ≠ n) }

/-- The judge settings of CONFIG_JUDGE after clamping (R42, step 3). -/
def judgeSettings (f : JudgeFields) : JudgeConfig :=
  { w1 := clampNat 1000 250000 f.w1.toNat
    w2 := clampNat 1000 250000 f.w2.toNat
    w3 := clampNat 1000 250000 f.w3.toNat
    w4 := clampNat 1000 250000 f.w4.toNat
    w5 := clampNat 1000 250000 f.w5.toNat
    wm := clampNat 1000 250000 f.wm.toNat
    offset := clampInt (-200000) 200000 f.offset.toInt }

/-- Whether a value of CONFIG_JUDGE was clamped (R43). -/
def judgeClamped (f : JudgeFields) : Bool :=
  let c := judgeSettings f
  !(c.w1 == f.w1.toNat && c.w2 == f.w2.toNat && c.w3 == f.w3.toNat && c.w4 == f.w4.toNat && c.w5 == f.w5.toNat
    && c.wm == f.wm.toNat && c.offset == f.offset.toInt)

/-- The grade windows increase strictly (R41, R42 step 4). -/
def JudgeConfig.increasing (c : JudgeConfig) : Bool :=
  c.w1 < c.w2 && c.w2 < c.w3 && c.w3 < c.w4 && c.w4 < c.w5

/-- One row of CONFIG_SCORING after clamping (R96). -/
def scoreRow (f : ScoreField) : ScoreRow :=
  { points := min 1000 f.points.toNat, life := clampInt (-1000) 1000 f.life.toInt }

/-- Whether a value of one row of CONFIG_SCORING was clamped (R96). -/
def scoreRowClamped (f : ScoreField) : Bool :=
  !((scoreRow f).points == f.points.toNat && (scoreRow f).life == f.life.toInt)

/-- The five panel settings of CONFIG_PANELS as stored: clamped, and T_off lowered below T_on (R156). -/
def panelSettings (f : PanelFields) : PanelConfig :=
  let tOn := clampNat 1 16380 f.tOn.toNat
  let tOff := clampNat 0 16379 f.tOff.toNat
  { tOn := tOn
    tOff := if tOff ≥ tOn then tOn - 1 else tOff
    dOn := clampNat 1 8 f.dOn.toNat
    dOff := clampNat 1 8 f.dOff.toNat
    stuckTime := clampNat 1 120 f.stuckTime.toNat }

/-- The occupancy age of CONFIG_PANELS as stored (R156). -/
def ageSetting (f : PanelFields) : Nat := clampNat 0 600 f.occupancyAge.toNat

/-- Whether a value of CONFIG_PANELS was clamped or T_off was lowered (R156). -/
def panelsClamped (f : PanelFields) : Bool :=
  let c := panelSettings f
  !(c.tOn == f.tOn.toNat && c.tOff == f.tOff.toNat && c.dOn == f.dOn.toNat && c.dOff == f.dOff.toNat
    && c.stuckTime == f.stuckTime.toNat && ageSetting f == f.occupancyAge.toNat)

/-- The mode of SET_LAMPS with the values that it uses, clamped, and with flash remaining 0 in FLASH; none for a code that
is no mode (R164). -/
def lampMode (f : LampFields) : Option LampMode :=
  let level := clampNat 0 15 f.level.toNat
  match f.mode.toNat with
  | 0 => some .off
  | 1 => some (.steady level)
  | 2 => some (.follow level)
  | 3 => some (.flash level (clampNat 10 1000 f.duration.toNat) (f.results.setWidth 10) 0)
  | 4 => some (.beat level (clampNat 100000 2000000 f.period.toNat) (clampNat 1 4 f.duty.toNat) f.phase.toInt)
  | _ => none

/-- Whether a value that the mode of SET_LAMPS uses was clamped (R164). -/
def lampClamped (f : LampFields) : LampMode → Bool
  | .off => false
  | .steady v => v ≠ f.level.toNat
  | .follow v => v ≠ f.level.toNat
  | .flash v d _ _ => v ≠ f.level.toNat || d ≠ f.duration.toNat
  | .beat v p q _ => v ≠ f.level.toNat || p ≠ f.period.toNat || q ≠ f.duty.toNat

/-! ### The note records of NOTE_BLOCK (R27, R181) -/

/-- A note of a block as read from the line, before its form is checked. -/
structure RawNote where
  id : BitVec 16
  time : Int
  code : Nat
  lanes : LaneSet
  endTime : Int
deriving DecidableEq, Repr

/-- The length of the record that begins the bytes: 13 when its kind code is HOLD or ROLL and 9 for any other (R27). -/
def recordLength (bytes : List Byte) : Nat :=
  if field bytes 6 1 = 1 ∨ field bytes 6 1 = 2 then 13 else 9

/-- The record that begins the bytes (R181). -/
def readNote (bytes : List Byte) : RawNote :=
  { id := field16 bytes 0, time := (field32 bytes 2).toInt, code := field bytes 6 1, lanes := laneField (field16 bytes 7),
    endTime := (field32 bytes 9).toInt }

/-- The walk of R27's check 1: `count` records that end exactly at the end of the bytes. -/
def walkNotes : Nat → List Byte → Option (List RawNote)
  | 0, [] => some []
  | 0, _ :: _ => none
  | n + 1, bytes =>
    if bytes.length < recordLength bytes then none
    else (walkNotes n (bytes.drop (recordLength bytes))).map (readNote bytes :: ·)

/-- The kind of a raw note; none for a code that is no kind (R181). -/
def RawNote.kind (n : RawNote) : Option NoteKind :=
  match n.code with
  | 0 => some .tap
  | 1 => some (.hold n.endTime)
  | 2 => some (.roll n.endTime)
  | 3 => some .mine
  | _ => none

/-- The form a note must have (R27, check 2). -/
def RawNote.wellFormed (n : RawNote) : Bool :=
  let single := (LaneSet.lanes n.lanes).length == 1
  match n.kind with
  | none => false
  | some .tap => (LaneSet.lanes n.lanes).length ≥ 1
  | some (.hold e) => single && decide (e > n.time)
  | some (.roll e) => single && decide (e > n.time)
  | some .mine => single

/-- The record a note joins the queue with: PENDING, untouched (R21). -/
def RawNote.record (n : RawNote) : NoteRecord :=
  { id := n.id, time := n.time, kind := n.kind.getD .tap, lanes := n.lanes, laneHits := [], touched := false,
    checkTaken := false, pressTaken := false }

end Sys2Proof.Machine
end

