-- ==== Sys2Proof/Machine/Flags.lean ====
section
/-! DEFINITION. The codes, flags and masks the part writes: bytes of numbers, presence flags and named values (R172, R177,
R181, R186), the payload of every report (R186) and the frame check (R169). -/

namespace Sys2Proof.Machine

/-! ### Numbers, least significant byte first (00_scope.md, "Fields on the line") -/

/-- The `size` low bytes of a number. -/
def leBytes : Nat → Nat → List Byte
  | 0, _ => []
  | size + 1, n => BitVec.ofNat 8 (n % 256) :: leBytes size (n / 256)

/-- The `size` low bytes of an integer in two's complement. -/
def leInt (size : Nat) (n : Int) : List Byte := leBytes size (n % (256 ^ size : Nat)).toNat

/-- A flag's byte: 0x01 set, 0x00 clear (R172). -/
def flagByte (b : Bool) : Byte := if b then 1 else 0

/-- A value that may be absent: a presence flag, then the value, or 0 when absent (R172, R177). -/
def optional (size : Nat) (v : Option Nat) : List Byte := flagByte v.isSome :: leBytes size (v.getD 0)

/-- A song time that may be absent (R172, R177). -/
def optionalTime (v : Option Int) : List Byte := flagByte v.isSome :: leInt 4 (v.getD 0)

/-- The mask of a list of flags, bit n the nth (R172). -/
def maskNat : List Bool → Nat
  | [] => 0
  | b :: bs => b.toNat + 2 * maskNat bs

/-- A lane set on the line (R172). -/
def laneBytes (m : LaneSet) : List Byte := leBytes 2 m.toNat

/-! ### Codes -/

/-- R186. -/
def StationState.code : StationState → Nat
  | .idle => 0
  | .loaded => 1
  | .running => 2
  | .draining => 3
  | .finished => 4

/-- R181. -/
def SongOutcome.code : SongOutcome → Nat
  | .cleared => 0
  | .failed => 1
  | .aborted => 2

/-- R181. -/
def resultCode : Result → Nat
  | .crisp => 0
  | .solid => 1
  | .fair => 2
  | .loose => 3
  | .poor => 4
  | .miss => 5
  | .held => 6
  | .dropped => 7
  | .mineHit => 8
  | .mineAvoided => 9

/-- R181. -/
def Verdict.code : Verdict → Nat
  | .scored r => resultCode r
  | .void => 10

/-- R177. -/
def TimelineState.code : TimelineState → Nat
  | .stopped => 0
  | .starting => 1
  | .running => 2

/-- R186. -/
def Source.code : Source → Nat
  | .external => 0
  | .holdover => 1

/-- R186. -/
def Lock.code : Lock → Nat
  | .free => 0
  | .locked => 1
  | .suspect => 2

/-- R186. -/
def ResetCause.code : ResetCause → Nat
  | .power => 0
  | .pin => 1
  | .command => 2

/-- R186. -/
def TimelineEvent.code : TimelineEvent → Nat
  | .started => 0
  | .stopped => 1
  | .sourceChange => 2
  | .lockChange => 3
  | .step => 4

/-- R186. -/
def FaultEvent.code : FaultEvent → Nat
  | .channelFaulty => 0
  | .channelRecovered => 1
  | .panelStuck => 2
  | .panelDead => 3

/-- R177. -/
def PanelState.code : PanelState → Nat
  | .released => 0
  | .pressing _ _ => 1
  | .pressed => 2
  | .releasing _ _ => 3
  | .stuck _ => 4
  | .dead => 5

/-- R164. -/
def LampMode.code : LampMode → Nat
  | .off => 0
  | .steady _ => 1
  | .follow _ => 2
  | .flash _ _ _ _ => 3
  | .beat _ _ _ _ => 4

/-- R176. -/
def Status.code : Status → Nat
  | .ok => 0
  | .busy => 1
  | .badArg => 2
  | .badLength => 3
  | .unknown => 4
  | .full => 5
  | .order => 6
  | .badNote => 7
  | .badLane => 8
  | .badWindows => 9
  | .tooLate => 10

/-- A one-byte code. -/
def codeByte (n : Nat) : Byte := BitVec.ofNat 8 n

/-- H as the FEED report carries it: its state and its value, 0 unless set (R186). -/
def Horizon.bytes : Horizon → List Byte
  | .unset => 0 :: leInt 4 0
  | .value h => 1 :: leInt 4 h
  | .unbounded => 2 :: leInt 4 0

/-- The result record (R181). -/
def ResultRecord.bytes (i : StationId) (r : ResultRecord) : List Byte :=
  [codeByte i.val, codeByte r.outcome.code] ++ r.counts.toList.flatMap (leBytes 2) ++ leBytes 2 r.voids
    ++ leBytes 2 r.strays ++ leBytes 2 r.discarded ++ leBytes 2 r.maxCombo ++ leBytes 4 r.points ++ leBytes 4 r.score
    ++ leBytes 2 r.life ++ [flagByte r.overUnits]

/-- The flags byte of a JUDGE report: bit 0 autoplay, bit 1 after-step, bit 2 over-units (R181). -/
def judgeFlags (autoplay afterStep overUnits : Bool) : Byte := codeByte (maskNat [autoplay, afterStep, overUnits])

/-! ### Reports (R169, R181, R186) -/

/-- The KIND of a report (R169). -/
def ReportBody.kind : ReportBody → Byte
  | .ready _ => 0x80
  | .judge .. => 0x81
  | .holdEnd .. => 0x82
  | .mine .. => 0x83
  | .station .. => 0x84
  | .result .. => 0x85
  | .feed .. => 0x86
  | .timeline .. => 0x87
  | .fault .. => 0x88
  | .service .. => 0x89
  | .presence .. => 0x8A
  | .press .. => 0x8B
  | .release .. => 0x8C

/-- PRESS and RELEASE reports are the low class (R184). -/
def ReportBody.isLow : ReportBody → Bool
  | .press .. => true
  | .release .. => true
  | _ => false

/-- The fields of a report after its stamp (R186). -/
def ReportBody.bytes : ReportBody → List Byte
  | .ready cause => [codeByte cause.code, Config.revision]
  | .judge i id lanes verdict autoplay afterStep overUnits combo life score delta =>
    codeByte i.val :: leBytes 2 id.toNat ++ laneBytes lanes
      ++ [codeByte verdict.code, judgeFlags autoplay afterStep overUnits] ++ leBytes 2 combo ++ leBytes 2 life
      ++ leBytes 4 score ++ (delta.map (leInt 4)).getD []
  | .holdEnd i id lane res combo life score =>
    codeByte i.val :: leBytes 2 id.toNat ++ [codeByte lane.val, codeByte (resultCode res)] ++ leBytes 2 combo
      ++ leBytes 2 life ++ leBytes 4 score
  | .mine i id lane res life =>
    codeByte i.val :: leBytes 2 id.toNat ++ [codeByte lane.val, codeByte (resultCode res)] ++ leBytes 2 life
  | .station i state outcome =>
    [codeByte i.val, codeByte state.code, (outcome.map fun o => codeByte o.code).getD 0xFF]
  | .result i record => record.bytes i
  | .feed i free horizon starved => [codeByte i.val, codeByte free] ++ horizon.bytes ++ [flagByte starved]
  | .timeline event t source lock step =>
    codeByte event.code :: leInt 4 t ++ [codeByte source.code, codeByte lock.code] ++ leInt 4 step
  | .fault i item event => [codeByte i.val, codeByte item, codeByte event.code]
  | .service i => [codeByte i.val]
  | .presence i vacant => [codeByte i.val, flagByte vacant]
  | .press i panel stamp => [codeByte i.val, codeByte panel.val] ++ leInt 4 stamp
  | .release i panel stamp => [codeByte i.val, codeByte panel.val] ++ leInt 4 stamp

/-- A report's payload begins with its stamp (R169). -/
def Report.payload (r : Report) : List Byte := leInt 4 r.stamp ++ r.body.bytes

/-- A reply's payload: kind, status, flags, result (R172). -/
def Reply.payload (r : Reply) : List Byte :=
  [r.kind, codeByte r.answer.status.code, flagByte r.answer.clamped] ++ r.answer.bytes

/-! ### The frame check and the frame (R169) -/

/-- One bit of the frame check's register: x^16 + x^12 + x^5 + 1. -/
def crcBit (reg : BitVec 16) : BitVec 16 := if reg.msb then (reg <<< 1) ^^^ 0x1021#16 else reg <<< 1

/-- One byte of the frame check, most significant bit first. -/
def crcByte (reg : BitVec 16) (b : Byte) : BitVec 16 :=
  crcBit (crcBit (crcBit (crcBit (crcBit (crcBit (crcBit (crcBit (reg ^^^ (b.setWidth 16 <<< 8)))))))))

/-- The frame check of bytes in line order, from 0xFFFF. -/
def crc (bytes : List Byte) : BitVec 16 := bytes.foldl crcByte 0xFFFF#16

/-- The two check bytes, the most significant first. -/
def crcBytes (bytes : List Byte) : List Byte :=
  let c := crc bytes
  [(c >>> 8).setWidth 8, c.setWidth 8]

/-- A whole frame: SYNC, LENGTH, KIND, TAG, payload and check (R169). -/
def frame (kind tag : Byte) (payload : List Byte) : List Byte :=
  let body := codeByte payload.length :: kind :: tag :: payload
  Config.sync :: body ++ crcBytes body

end Sys2Proof.Machine
end

