-- ==== Sys2Proof/Machine/Ops.lean ====
section
/-! DEFINITION. The named operations that every family shares: reaching a station's record, queueing a report (R183, R184),
counting with saturation, answering a request (R171, R172), the judge's view of a lane (R46), moving stamps (R127), and the
gate that keeps a part without supply or in reset still (R179). -/

namespace Sys2Proof.Machine

/-! ### Counting -/

/-- A 16-bit count raised by `n`, saturating at 65,535 (R93, R104, R178). -/
def satAdd (count n : Nat) : Nat := min Config.countMax (count + n)

/-! ### The play blocks -/

/-- Song time as it stands (R110). -/
def Play.time (p : Play) : Int := p.timeline.t

/-- A station's record. -/
def Play.station (p : Play) (i : StationId) : Station := p.stations.get i

/-- A station's record replaced. -/
def Play.setStation (p : Play) (i : StationId) (st : Station) : Play := { p with stations := p.stations.set i st }

/-- A station's record changed. -/
def Play.modStation (p : Play) (i : StationId) (f : Station → Station) : Play := p.setStation i (f (p.station i))

/-- The timeline changed. -/
def Play.modTimeline (p : Play) (f : Timeline → Timeline) : Play := { p with timeline := f p.timeline }

/-- A station in RUNNING or DRAINING (section 1.6). -/
def Station.inPlay (st : Station) : Bool := st.state == .running || st.state == .draining

/-- Whether any station is in play (R17). -/
def Play.anyInPlay (p : Play) : Bool := p.stations.any Station.inPlay

/-- Whether any station is LOADED (R8, R118). -/
def Play.anyLoaded (p : Play) : Bool := p.stations.any fun st => st.state == .loaded

/-- A station's lane mask as a set: empty where it has none (R3). -/
def Station.mask (st : Station) : LaneSet := st.laneMask.getD 0

/-- A station's free count (R23). -/
def Feed.free (f : Feed) : Nat := Config.queueCapacity - f.queue.length

/-- Whether the hold table holds no entry (R9). -/
def Station.noHolds (st : Station) : Bool := st.holds.every fun e => e.isNone

/-- The number of entries in the hold table (R91). -/
def Station.holdCount (st : Station) : Nat := (st.holds.toList.filter fun e => e.isSome).length

/-! ### The report queue (chapter 11) -/

/-- The records without the oldest one of the low class; none when there is no such record (R184). -/
def dropOldestLow : List Report → Option (List Report)
  | [] => none
  | r :: rs => if r.body.isLow then some rs else (dropOldestLow rs).map (r :: ·)

/-- One report is lost (R184). -/
def ReportQueue.lose (q : ReportQueue) : ReportQueue :=
  { q with pendingLost := min Config.lostMax (q.pendingLost + 1), reportsLost := satAdd q.reportsLost 1 }

/-- A record is queued (R183, R184). -/
def ReportQueue.push (q : ReportQueue) (r : Report) : ReportQueue :=
  if q.records.length < Config.reportCapacity then { q with records := q.records ++ [r] }
  else if r.body.isLow then q.lose
  else { q.lose with records := (dropOldestLow q.records).getD q.records.tail ++ [r] }

/-- A report is queued, stamped with T as it stands (R183). -/
def Play.report (p : Play) (body : ReportBody) : Play :=
  { p with reports := p.reports.push { stamp := p.time, body := body } }

/-- A TIMELINE report is queued with T, the source and the lock as they stand (R128). -/
def Play.reportTimeline (p : Play) (event : TimelineEvent) (step : Int) : Play :=
  p.report (.timeline event p.time p.timeline.source p.timeline.lock step)

/-- A STATION report is queued with the station's state and outcome as they stand (R18). -/
def Play.reportStation (p : Play) (i : StationId) : Play :=
  p.report (.station i (p.station i).state (p.station i).outcome)

/-- A FEED report is queued with the values as they stand (R35, R36). -/
def Play.reportFeed (p : Play) (i : StationId) : Play :=
  let f := (p.station i).feed
  p.report (.feed i f.free f.horizon f.starved)

/-! ### Panels and the judge's view -/

/-- A panel that is PRESSED or RELEASING is down (R46, R157, R159, R165). -/
def Panel.isDown (p : Panel) : Bool :=
  match p.state with
  | .pressed => true
  | .releasing _ _ => true
  | _ => false

/-- Which panels of a station are down. -/
def PanelStation.downs (ps : PanelStation) : Nine Bool := ps.panels.map Panel.isDown

/-- Which panels of the part are down. -/
def State.downs (s : State) : Four (Nine Bool) := s.panels.map PanelStation.downs

/-- The judge's view of a lane: its panel, or its synthetic state on an autoplay station (R46). -/
def Station.laneDown (st : Station) (down : Nine Bool) (lane : PanelId) : Bool :=
  if st.autoplay then (st.synth.get lane).pressed else down.get lane

/-! ### Moves of T other than by running (R127, R131, R149) -/

/-- A panel's run stamp moved, held in the range of T (R149). -/
def PanelState.moveStamp (amount : Int) : PanelState → PanelState
  | .pressing stamp count => .pressing (clampTime (stamp + amount)) count
  | .releasing stamp count => .releasing (clampTime (stamp + amount)) count
  | other => other

/-- Every run stamp in progress moved, on every panel of every station (R127). -/
def movePanels (amount : Int) (panels : Four PanelStation) : Four PanelStation :=
  panels.map fun ps => { ps with panels := ps.panels.map fun p => { p with state := p.state.moveStamp amount } }

/-- The stamp of the scan under way moved (R131; entry 22). -/
def Scanner.moveStamp (amount : Int) (sc : Scanner) : Scanner :=
  if sc.waiting.any id then { sc with scanStamp := clampTime (sc.scanStamp + amount) } else sc

/-- The part after the play blocks moved T by `amount` other than by running. -/
def State.moved (s : State) (play : Play) (amount : Int) : State :=
  { s with play := play, panels := movePanels amount s.panels, scanner := s.scanner.moveStamp amount }

/-! ### Answers -/

def Answer.ok (bytes : List Byte) : Answer := { status := .ok, clamped := false, bytes := bytes }

def Answer.okClamped (clamped : Bool) (bytes : List Byte) : Answer := { status := .ok, clamped := clamped, bytes := bytes }

/-- A refused request's reply carries its three common bytes alone, the clamped flag clear (R172; entry 13). -/
def Answer.refuse (status : Status) : Answer := { status := status, clamped := false, bytes := [] }

/-- What executing a request gives: its answer, and the part after it. -/
abbrev Owner := State → Answer × State

/-- The link port changed. -/
def State.modLink (s : State) (f : Link → Link) : State := { s with link := f s.link }

/-- A reply joins the tail of the reply queue (R173). -/
def State.queueReply (s : State) (r : Reply) : State :=
  s.modLink fun l => { l with replies := l.replies ++ [r] }

/-- A complete frame with a good check is taken: it is counted; when the reply queue is full it is lost to overrun; otherwise
its owner executes it and its reply is queued (R171, R172). -/
def serve (kind tag : Byte) (owner : Owner) (s : State) : State :=
  let s := s.modLink fun l => { l with accepted := satAdd l.accepted 1 }
  if s.link.replies.length ≥ Config.replyCapacity then
    s.modLink fun l => { l with overruns := satAdd l.overruns 1 }
  else
    let (answer, s) := owner s
    s.queueReply { kind := kind, tag := tag, answer := answer }

/-! ### The gate of supply and reset -/

/-- The part runs: it has its supply and RST_N is high (R174, R179). -/
def State.live (s : State) : Bool := s.powered && s.rstN

/-- An event of a part that runs; a part without supply or held in reset does nothing (R174, R179; entry 6). -/
def whenLive (f : State → State) (s : State) : State := if s.live then f s else s

/-- The play blocks changed. -/
def State.modPlay (s : State) (f : Play → Play) : State := { s with play := f s.play }

end Sys2Proof.Machine
end

