-- ==== Sys2Proof/Machine/Tally.lean ====
section
/-! DEFINITION. The tally (chapter 5): applying a result (R97 to R103), the counts that give no result (R104), the result
record (R106), and the handing of a result to the lamps (R58, R166). -/

namespace Sys2Proof.Machine

/-- P_max, the larger of the points of CRISP and of HELD (R102). -/
def pMax (scoring : PerResult ScoreRow) : Nat := max scoring.crisp.points scoring.held.points

/-- M, the most a chart of `units` can earn (R102). -/
def maxPoints (scoring : PerResult ScoreRow) (units : Nat) : Nat := units * pMax scoring

/-- The normalized score S of E against M (R103). -/
def normalized (e m : Nat) : Nat :=
  if m = 0 then 0 else if e ≤ m then Config.scoreMax * e / m else Config.scoreMax

/-- How a result acts on the combo (R99). -/
def comboAfter (r : Result) (combo : Nat) : Nat :=
  match r with
  | .crisp | .solid | .fair | .held => satAdd combo 1
  | .loose | .poor | .miss | .dropped => 0
  | .mineHit | .mineAvoided => combo

/-- Life after a life delta, held in 0 to 1,000 (R100). -/
def lifeAfter (delta : Int) (life : Nat) : Nat := (clampInt 0 Config.lifeMax (life + delta)).toNat

/-- A tally after a result (R97). -/
def Tally.apply (scoring : PerResult ScoreRow) (r : Result) (t : Tally) : Tally :=
  let row := scoring.get r
  let e := min Config.pointsMax (t.points + row.points)
  let combo := comboAfter r t.combo
  let m := maxPoints scoring t.units
  { t with
    counts := t.counts.set r (satAdd (t.counts.get r) 1)
    points := e
    combo := combo
    maxCombo := max t.maxCombo combo
    life := lifeAfter row.life t.life
    score := normalized e m
    overUnits := t.overUnits || decide (e > m) }

/-- The result record of a tally (R102, R106). -/
def Tally.toRecord (t : Tally) (outcome : SongOutcome) : ResultRecord :=
  { outcome := outcome, counts := t.counts, voids := t.voids, strays := t.strays, discarded := t.discarded,
    maxCombo := t.maxCombo, points := t.points, units := t.units, score := t.score, life := t.life, overUnits := t.overUnits }

/-- A flash of a duration in ms, in crystal periods (R166). A result that comes after a period start of the same crystal period
lights the lamp at the duration's number of period starts after that one, so it lasts one crystal period more (entry 37). -/
def flashPeriods (periodBegun : Bool) (durationMs : Nat) : Nat :=
  durationMs * 1000 * Config.crystalPerMicro + periodBegun.toNat

/-- A result reaches a lamp: in FLASH, a result of its set restarts the flash (R166). -/
def Lamp.takeResult (periodBegun : Bool) (r : Result) (l : Lamp) : Lamp :=
  match l.mode with
  | .flash level d set _ =>
    if set.getLsbD (resultCode r) then { l with mode := .flash level d set (flashPeriods periodBegun d) }
    else l
  | _ => l

/-- A result reaches the lamps of a station's lanes (R58, R166). -/
def Play.lampResult (p : Play) (i : StationId) (lanes : LaneSet) (r : Result) : Play :=
  { p with lamps := p.lamps.modify i fun row =>
      row.mapIdx fun lane l => if LaneSet.has lanes lane then l.takeResult p.periodBegun r else l }

/-- A result goes to a station's tally, and at that moment to the lamps of its lanes (R58, R85). -/
def Play.giveResult (p : Play) (i : StationId) (lanes : LaneSet) (r : Result) : Play :=
  (p.modStation i fun st => { st with tally := st.tally.apply p.scoring r }).lampResult i lanes r

/-- The failure that a result signals: life 0 with fail-enable set (R5, R101). -/
def Play.failing (p : Play) (i : StationId) : Bool :=
  (p.station i).failEnable && (p.station i).tally.life == 0

/-- A JUDGE report with the station's values as they stand (R58, R94). -/
def Play.reportJudge (p : Play) (i : StationId) (id : BitVec 16) (lanes : LaneSet) (r : Result) (delta : Option Int) :
    Play :=
  let st := p.station i
  p.report (.judge i id lanes (.scored r) st.autoplay p.afterStep st.tally.overUnits st.tally.combo st.tally.life
    st.tally.score delta)

/-- A HOLD_END report with the station's values as they stand (R85). -/
def Play.reportHoldEnd (p : Play) (i : StationId) (id : BitVec 16) (lane : PanelId) (r : Result) : Play :=
  let t := (p.station i).tally
  p.report (.holdEnd i id lane r t.combo t.life t.score)

/-- A MINE report with life as it stands (R58). -/
def Play.reportMine (p : Play) (i : StationId) (id : BitVec 16) (lane : PanelId) (r : Result) : Play :=
  p.report (.mine i id lane r (p.station i).tally.life)

/-- A note is made VOID: the void count rises and a JUDGE report follows (R31). -/
def Play.voidNote (p : Play) (i : StationId) (n : RawNote) : Play :=
  let p := p.modStation i fun st => { st with tally := { st.tally with voids := satAdd st.tally.voids 1 } }
  let st := p.station i
  p.report (.judge i n.id n.lanes .void st.autoplay false st.tally.overUnits st.tally.combo st.tally.life st.tally.score
    none)

/-- A stray press: the stray count rises unless the station is starved (R37, R52). -/
def Play.stray (p : Play) (i : StationId) : Play :=
  p.modStation i fun st =>
    if st.feed.starved then st else { st with tally := { st.tally with strays := satAdd st.tally.strays 1 } }

end Sys2Proof.Machine
end

