-- ==== Sys2Proof/Machine/Control.lean ====
section
/-! DEFINITION. Station control (chapter 1): leaving play by clearing, failure or abort (R9 to R16), the auto-stop and the
abandoned start (R8, R17), and the tests that follow a record's leaving the note queue (R24, R35). -/

namespace Sys2Proof.Machine

/-- The timeline becomes STOPPED with T and R held, and a TIMELINE report (stopped) is queued (R121). -/
def Play.stopTimeline (p : Play) : Play :=
  (p.modTimeline fun tl => { tl with state := .stopped, pendingStart := none }).reportTimeline .stopped 0

/-- The auto-stop: while RUNNING with no station in play, the timeline stops (R17). -/
def Play.autoStop (p : Play) : Play :=
  if p.timeline.state = .running && !p.anyInPlay then p.stopTimeline else p

/-- The abandoned start: in STARTING with no station LOADED, the timeline stops (R8). -/
def Play.abandonStart (p : Play) : Play :=
  if p.timeline.state = .starting && !p.anyLoaded then p.stopTimeline else p

/-- A station's records and entries are removed, each counted as one discarded note (R10). -/
def Station.discard (st : Station) : Station :=
  { st with
    feed := { st.feed with queue := [] }
    holds := .all none
    tally := { st.tally with discarded := satAdd st.tally.discarded (st.feed.queue.length + st.holdCount) } }

/-- A station becomes FINISHED: its synthetic state is released (R68), its STATION report is queued, and after it the RESULT
report of the record the tally builds (R18, R106). -/
def Play.finish (p : Play) (i : StationId) (outcome : SongOutcome) : Play :=
  let p := p.modStation i fun st =>
    { st with
      state := .finished
      outcome := some outcome
      synth := .all .released
      tally := { st.tally with record := some (st.tally.toRecord outcome) } }
  (p.reportStation i).report (.result i ((p.station i).tally.toRecord outcome))

/-- A station is discarded and finished (R11, R13). -/
def Play.discardFinish (p : Play) (i : StationId) (outcome : SongOutcome) : Play :=
  (p.modStation i Station.discard).finish i outcome

/-- A station whose life gauge has emptied is failed (R11), and the auto-stop is tested. -/
def Play.failStation (p : Play) (i : StationId) : Play := (p.discardFinish i .failed).autoStop

/-- The note queue and hold table are empty (R9, R13). -/
def Station.noNotes (st : Station) : Bool := st.feed.queue.isEmpty && st.noHolds

/-- T has reached the song end time. -/
def Station.endReached (st : Station) (t : Int) : Bool :=
  match st.feed.songEnd with
  | some e => decide (e ≤ t)
  | none => false

/-- The finishing test of a DRAINING station (R9), with the auto-stop after it. -/
def Play.drainTest (p : Play) (i : StationId) : Play :=
  let st := p.station i
  if st.state = .draining && st.noNotes && st.endReached p.time then (p.finish i .cleared).autoStop else p

/-- The feed advice test after a settlement that began with `before` free (R35). -/
def Play.feedTest (p : Play) (i : StationId) (before : Nat) : Play :=
  let st := p.station i
  if before < Config.adviceLevel && st.feed.free ≥ Config.adviceLevel
      && (st.state == .loaded || st.state == .running) && !st.feed.chartComplete then p.reportFeed i
  else p

/-- The tests that follow a record's leaving by settlement (R24). -/
def Play.afterLeaving (p : Play) (i : StationId) (before : Nat) : Play := (p.feedTest i before).drainTest i

/-- After a settlement and its report: the failure it signalled, or the tests that follow (R24, R58). -/
def Play.closeSettlement (p : Play) (i : StationId) (before : Nat) : Play :=
  if p.failing i then p.failStation i else p.afterLeaving i before

/-- One station handled by an abort (R13): the play after it, and the per-station code. -/
def Play.abortStation (p : Play) (i : StationId) : Play × Status :=
  match (p.station i).state with
  | .idle => (p, .busy)
  | .loaded => (p.discardFinish i .aborted, .ok)
  | .running => (p.discardFinish i .aborted, .ok)
  | .draining =>
    if (p.station i).noNotes then (p.finish i .cleared, .tooLate) else (p.discardFinish i .aborted, .ok)
  | .finished => (p, .tooLate)

/-- The named stations handled by an abort, in the order given, with their codes (R12). -/
def Play.abortStations (p : Play) : List StationId → Play × List (StationId × Status)
  | [] => (p, [])
  | i :: is =>
    let (p, code) := p.abortStation i
    let (p, codes) := p.abortStations is
    (p, (i, code) :: codes)

/-- The tests after an abort: the auto-stop, or the abandoned start in STARTING (R12, R15). -/
def Play.abortTests (p : Play) : Play := p.autoStop.abandonStart

end Sys2Proof.Machine
end

