-- ==== Sys2Proof/Machine/Judge.lean ====
section
/-! DEFINITION. The judge and the hold table (chapters 3 and 4): taking edges (R47 to R57, R81, R82), settling heads and tails
(R76 to R80, R83 to R86), synthetic edges (R68 to R71), and taking a station's reached deadlines in the order of R45. -/

namespace Sys2Proof.Machine

/-! ### Effective times and grades -/

/-- A note's effective time (R44). -/
def JudgeConfig.effective (c : JudgeConfig) (time : Int) : Int := time + c.offset

/-- The close deadline of a TAP or of a HOLD or ROLL head (R44). -/
def JudgeConfig.closeAt (c : JudgeConfig) (time : Int) : Int := c.effective time + c.w5 + Config.settleMargin

/-- The close deadline of a MINE (R44). -/
def JudgeConfig.mineCloseAt (c : JudgeConfig) (time : Int) : Int := c.effective time + c.wm + Config.settleMargin

/-- The grade of a delta (R53); R51 bounds |delta| by W5. -/
def JudgeConfig.grade (c : JudgeConfig) (delta : Int) : Result :=
  if delta.natAbs ≤ c.w1 then .crisp
  else if delta.natAbs ≤ c.w2 then .solid
  else if delta.natAbs ≤ c.w3 then .fair
  else if delta.natAbs ≤ c.w4 then .loose
  else .poor

/-- The one lane of a HOLD, ROLL or MINE (R21). -/
def NoteRecord.lane (n : NoteRecord) : PanelId := (LaneSet.lanes n.lanes).headD 0

/-! ### Settling tails -/

/-- A tail's result is applied, handed to the lamp of its lane and reported (R85, steps 1 to 3). -/
def Play.tailResult (p : Play) (i : StationId) (id : BitVec 16) (lane : PanelId) (r : Result) : Play :=
  (p.giveResult i (LaneSet.single lane) r).reportHoldEnd i id lane r

/-- A lane's entry leaves the hold table, or one is put there. -/
def Play.setHold (p : Play) (i : StationId) (lane : PanelId) (e : Option HoldEntry) : Play :=
  p.modStation i fun st => { st with holds := st.holds.set lane e }

/-- The tail of a lane's entry is settled (R85). -/
def Play.settleTail (p : Play) (i : StationId) (lane : PanelId) (r : Result) : Play :=
  match (p.station i).holds.get lane with
  | none => p
  | some e =>
    let p := (p.tailResult i e.id lane r).setHold i lane none
    if p.failing i then p.failStation i else p.drainTest i

/-- An entry's deadline, in LET_GO and ROLLING (R75). -/
def HoldEntry.deadline (e : HoldEntry) : Option Int :=
  match e.state with
  | .holding => none
  | .letGo d => some d
  | .rolling d => some d

/-- A deadline that is already reached when it is set is taken at that moment, and the entry's end with it, in value order,
the end first at an equal value (R84, R86). -/
def Play.settleReached (p : Play) (i : StationId) (lane : PanelId) : Play :=
  match (p.station i).holds.get lane with
  | none => p
  | some e =>
    match e.deadline with
    | none => p
    | some d =>
      if d ≤ p.time then
        p.settleTail i lane (if e.effectiveEnd ≤ p.time ∧ e.effectiveEnd ≤ d then .held else .dropped)
      else p

/-! ### Edges on a live entry -/

/-- A press consumed by the entry of its lane (R82). -/
def HoldEntry.press (e : HoldEntry) (rollGap : Nat) (t : Int) : HoldEntry :=
  match e.state with
  | .holding => e
  | .letGo _ => { e with state := .holding }
  | .rolling _ => { e with state := .rolling (t + rollGap) }

/-- A release on the entry of its lane (R81). -/
def HoldEntry.release (e : HoldEntry) (grace : Nat) (r : Int) : HoldEntry :=
  match e.state with
  | .holding => { e with state := .letGo (r + grace) }
  | .letGo _ => e
  | .rolling _ => e

/-! ### Taking a press (section 3.5) -/

/-- Step 1: every mine in reach of the press is touched (R49). -/
def touchMines (c : JudgeConfig) (lane : PanelId) (t : Int) (queue : List NoteRecord) : List NoteRecord :=
  queue.map fun n =>
    if n.kind = .mine && LaneSet.has n.lanes lane && decide ((t - c.effective n.time).natAbs ≤ c.wm) then
      { n with touched := true }
    else n

/-- A record that may take a press (R51). -/
def NoteRecord.isCandidate (c : JudgeConfig) (lane : PanelId) (t : Int) (n : NoteRecord) : Bool :=
  n.kind ≠ .mine && LaneSet.has n.lanes lane && !(n.laneHits.any fun h => h.lane == lane)
    && decide ((t - c.effective n.time).natAbs ≤ c.w5)

/-- The position of the first candidate in queue order (R51). -/
def findCandidate (c : JudgeConfig) (lane : PanelId) (t : Int) (queue : List NoteRecord) : Option Nat :=
  queue.findIdx? (NoteRecord.isCandidate c lane t)

/-- The hit with the largest |delta|, the earliest of them where several share it (R56). -/
def worstHit : List LaneHit → Int
  | [] => 0
  | h :: hs => if hs.all fun g => g.delta.natAbs ≤ h.delta.natAbs then h.delta else worstHit hs

/-- The record at a position leaves the note queue; the records behind it close up (R22). -/
def Play.removeRecord (p : Play) (i : StationId) (k : Nat) : Play :=
  p.modStation i fun st => { st with feed := { st.feed with queue := st.feed.queue.eraseIdx k } }

/-- The record at a position is changed. -/
def Play.updateRecord (p : Play) (i : StationId) (k : Nat) (f : NoteRecord → NoteRecord) : Play :=
  p.modStation i fun st => { st with feed := { st.feed with queue := st.feed.queue.modify k f } }

/-- A TAP or jump is settled: its record leaves, the result is applied and reported, and the tests follow (R54, R56, R58,
R59). -/
def Play.settleTap (p : Play) (i : StationId) (k : Nat) (n : NoteRecord) (r : Result) (delta : Option Int) : Play :=
  let before := (p.station i).feed.free
  (((p.removeRecord i k).giveResult i n.lanes r).reportJudge i n.id n.lanes r delta).closeSettlement i before

/-- A TAP that takes a press: a lane hit, and when every lane is hit the settlement with the worst hit's grade and delta
(R54 to R56). -/
def Play.pressTap (p : Play) (i : StationId) (k : Nat) (n : NoteRecord) (lane : PanelId) (delta : Int) : Play :=
  let hits := n.laneHits ++ [{ lane := lane, delta := delta }]
  if (LaneSet.lanes n.lanes).all fun q => hits.any fun h => h.lane == q then
    p.settleTap i k n ((p.station i).judge.grade (worstHit hits)) (some (worstHit hits))
  else p.updateRecord i k fun n => { n with laneHits := hits }

/-- The state a HOLD enters the table in (R79) or a ROLL (R80), for a head with stamp `t`. -/
def entryState (isRoll down : Bool) (grace rollGap : Nat) (t : Int) : EntryState :=
  if isRoll then .rolling (t + rollGap) else if down then .holding else .letGo (t + grace)

/-- The next synthetic roll press after one stamped `t`, while it lies before the effective end (R71). -/
def nextRollPress (rollGap : Nat) (t effectiveEnd : Int) : Option Int :=
  let next := t + (rollGap / 2 : Nat)
  if next < effectiveEnd then some next else none

/-- The entry a head makes (R79, R80). -/
def makeEntry (p : Play) (st : Station) (n : NoteRecord) (isRoll down : Bool) (t effectiveEnd : Int) : HoldEntry :=
  { id := n.id
    effectiveEnd := effectiveEnd
    state := entryState isRoll down p.grace p.rollGap t
    nextPress := if st.autoplay && isRoll then nextRollPress p.rollGap t effectiveEnd else none }

/-- A HOLD or ROLL head that takes a press with stamp `t` (R57, R76, R77). `down` is the judge's view of the lane. -/
def Play.pressHead (p : Play) (i : StationId) (k : Nat) (n : NoteRecord) (lane : PanelId) (t delta endTime : Int)
    (isRoll down : Bool) : Play :=
  let before := (p.station i).feed.free
  let r := (p.station i).judge.grade delta
  let p := (p.giveResult i n.lanes r).reportJudge i n.id n.lanes r (some delta)
  if p.failing i then p.failStation i
  else
    let p := p.removeRecord i k
    let effectiveEnd := (p.station i).judge.effective endTime
    if effectiveEnd ≤ p.time then (p.tailResult i n.id lane .held).closeSettlement i before
    else
      ((p.setHold i lane (some (makeEntry p (p.station i) n isRoll down t effectiveEnd))).afterLeaving i before
        ).settleReached i lane

/-- Step 3: the first candidate takes the press, or the press is a stray (R51, R52). -/
def Play.pressSearch (p : Play) (i : StationId) (lane : PanelId) (t : Int) (down : Bool) : Play :=
  let st := p.station i
  match findCandidate st.judge lane t st.feed.queue with
  | none => p.stray i
  | some k =>
    match st.feed.queue[k]? with
    | none => p
    | some n =>
      let delta := t - st.judge.effective n.time
      match n.kind with
      | .tap => p.pressTap i k n lane delta
      | .hold e => p.pressHead i k n lane t delta e false down
      | .roll e => p.pressHead i k n lane t delta e true down
      | .mine => p

/-- An offered press is taken (section 3.5): mines, then the hold table, then the search. -/
def Play.takePress (p : Play) (i : StationId) (lane : PanelId) (t : Int) (down : Nine Bool) : Play :=
  let p := p.modStation i fun st =>
    { st with feed := { st.feed with queue := touchMines st.judge lane t st.feed.queue } }
  match (p.station i).holds.get lane with
  | some e => p.setHold i lane (some (e.press p.rollGap t))
  | none => p.pressSearch i lane t ((p.station i).laneDown down lane)

/-- An offered release is taken by the hold table (R48, R81); a deadline already reached is taken with it (R86). -/
def Play.takeRelease (p : Play) (i : StationId) (lane : PanelId) (r : Int) : Play :=
  match (p.station i).holds.get lane with
  | some e =>
    if e.state = .holding then (p.setHold i lane (some (e.release p.grace r))).settleReached i lane else p
  | none => p

/-- The three conditions on an edge (R47, R48). -/
def Station.offered (st : Station) (lane : PanelId) (synthetic : Bool) : Bool :=
  st.inPlay && LaneSet.has st.mask lane && (synthetic == st.autoplay)

/-- The stamp an edge is offered with: within 2,000 µs below T (R73). -/
def offeredStamp (t stamp : Int) : Int := clampInt (t - Config.settleMargin) t stamp

/-- A press edge comes to the judge (R47). -/
def Play.offerPress (p : Play) (i : StationId) (lane : PanelId) (stamp : Int) (synthetic : Bool) (down : Nine Bool) :
    Play :=
  if (p.station i).offered lane synthetic then p.takePress i lane (offeredStamp p.time stamp) down else p

/-- A release edge comes to the judge (R48). -/
def Play.offerRelease (p : Play) (i : StationId) (lane : PanelId) (stamp : Int) (synthetic : Bool) : Play :=
  if (p.station i).offered lane synthetic then p.takeRelease i lane (offeredStamp p.time stamp) else p

/-! ### Windows that close (section 3.7) -/

/-- A HOLD or ROLL head closes unjudged: head MISS, then tail DROPPED (R60). -/
def Play.closeHead (p : Play) (i : StationId) (k : Nat) (n : NoteRecord) : Play :=
  let before := (p.station i).feed.free
  let p := (p.giveResult i n.lanes .miss).reportJudge i n.id n.lanes .miss none
  if p.failing i then p.failStation i
  else ((p.removeRecord i k).tailResult i n.id n.lane .dropped).closeSettlement i before

/-- A mine's check: a lane that is down touches it (R62). -/
def Play.checkMine (p : Play) (i : StationId) (k : Nat) (n : NoteRecord) (down : Nine Bool) : Play :=
  let seen := (p.station i).laneDown down n.lane
  p.updateRecord i k fun n => { n with touched := n.touched || seen, checkTaken := true }

/-- A mine's close (R63). -/
def Play.closeMine (p : Play) (i : StationId) (k : Nat) (n : NoteRecord) : Play :=
  let before := (p.station i).feed.free
  let r : Result := if n.touched then .mineHit else .mineAvoided
  (((p.removeRecord i k).giveResult i n.lanes r).reportMine i n.id n.lane r).closeSettlement i before

/-! ### Autoplay (section 3.10) -/

/-- The later of a pending release and a new one (R68). -/
def laterRelease (old : Option Int) (new : Int) : Int :=
  match old with
  | none => new
  | some r => max r new

/-- A synthetic press made on a lane of a station in play: the lane is pressed with its release pending, and the press is
offered (R68, R69). -/
def Play.synthPress (p : Play) (i : StationId) (lane : PanelId) (stamp release : Int) (down : Nine Bool) : Play :=
  if (p.station i).inPlay then
    (p.modStation i fun st =>
      { st with synth := st.synth.modify lane fun l =>
          { pressed := true, pendingRelease := some (laterRelease l.pendingRelease release) } }
      ).offerPress i lane stamp true down
  else p

/-- Synthetic presses on lanes in the order given (R69). -/
def Play.synthPresses (p : Play) (i : StationId) (stamp release : Int) (down : Nine Bool) : List PanelId → Play
  | [] => p
  | lane :: lanes => (p.synthPress i lane stamp release down).synthPresses i stamp release down lanes

/-- The stamp of a synthetic press made for a note of effective time `e` (R70). Where W5 is below 2,000 and d lies above W5 and not
above 2,000, two of the rule's conditions hold at once; the press is made then, stamped `e`: the model's choice, entry 38. -/
def synthStamp (c : JudgeConfig) (t e : Int) : Option Int :=
  if t - e ≤ Config.settleMargin then some e else if t - e ≤ c.w5 then some t else none

/-- The release a synthetic press calls for (R71). -/
def synthRelease (c : JudgeConfig) (rollGap : Nat) (stamp : Int) : NoteKind → Int
  | .tap => stamp + Config.tapHold
  | .hold e => c.effective e
  | .roll _ => stamp + (rollGap / 4 : Nat)
  | .mine => stamp

/-- The synthetic presses of a note whose effective time is reached (R69, R70). -/
def Play.pressNote (p : Play) (i : StationId) (k : Nat) (n : NoteRecord) (down : Nine Bool) : Play :=
  let c := (p.station i).judge
  let p := p.updateRecord i k fun n => { n with pressTaken := true }
  match synthStamp c p.time (c.effective n.time) with
  | none => p
  | some stamp => p.synthPresses i stamp (synthRelease c p.rollGap stamp n.kind) down (LaneSet.lanes n.lanes)

/-- The stamp of a synthetic release or roll press scheduled at `v` (R70). -/
def lateStamp (t v : Int) : Int := if t - v ≤ Config.settleMargin then v else t

/-- A lane's pending release is reached (R71). -/
def Play.releaseLane (p : Play) (i : StationId) (lane : PanelId) (v : Int) : Play :=
  (p.modStation i fun st => { st with synth := st.synth.set lane .released }).offerRelease i lane (lateStamp p.time v) true

/-- The next roll press of a lane's entry is reached (R71). -/
def Play.pressRoll (p : Play) (i : StationId) (lane : PanelId) (v : Int) (down : Nine Bool) : Play :=
  match (p.station i).holds.get lane with
  | none => p
  | some e =>
    let stamp := lateStamp p.time v
    (p.setHold i lane (some { e with nextPress := nextRollPress p.rollGap stamp e.effectiveEnd })).synthPress i lane stamp
      (stamp + (p.rollGap / 4 : Nat)) down

/-! ### Reached deadlines (R36, R45) -/

/-- The deadlines of a station. A record is named by its position in the queue. -/
inductive Deadline where
  | noteClose (k : Nat)
  | headClose (k : Nat)
  | mineCheck (k : Nat)
  | mineClose (k : Nat)
  | holdEnd (lane : PanelId)
  | holdDeadline (lane : PanelId)
  | synthRelease (lane : PanelId)
  | rollPress (lane : PanelId)
  | synthPress (k : Nat)
  | starvation
deriving DecidableEq, Repr

/-- A deadline with its value. -/
abbrev Due := Int × Deadline

/-- The deadlines of a queued record that have not been taken, its synthetic press apart (R44). -/
def recordDues (c : JudgeConfig) (k : Nat) (n : NoteRecord) : List Due :=
  match n.kind with
  | .tap => [(c.closeAt n.time, .noteClose k)]
  | .hold _ => [(c.closeAt n.time, .headClose k)]
  | .roll _ => [(c.closeAt n.time, .headClose k)]
  | .mine =>
    (if n.checkTaken then [] else [(c.effective n.time, .mineCheck k)]) ++ [(c.mineCloseAt n.time, .mineClose k)]

/-- The synthetic press of a queued record that has not been made (R69). -/
def pressDues (c : JudgeConfig) (k : Nat) (n : NoteRecord) : List Due :=
  if n.kind = .mine || n.pressTaken then [] else [(c.effective n.time, .synthPress k)]

/-- What a function gives for each record of a queue, in queue order, positions counted from `k`. -/
def duesFrom (f : Nat → NoteRecord → List Due) : Nat → List NoteRecord → List Due
  | _, [] => []
  | k, n :: ns => f k n ++ duesFrom f (k + 1) ns

/-- An entry's end, and its deadline after it (R84). -/
def entryDues (lane : PanelId) (e : Option HoldEntry) : List Due :=
  match e with
  | none => []
  | some e =>
    (e.effectiveEnd, .holdEnd lane) :: (e.deadline.map fun d => (d, Deadline.holdDeadline lane)).toList

/-- A lane's pending release (R71). -/
def releaseDues (lane : PanelId) (l : SynthLane) : List Due :=
  (l.pendingRelease.map fun v => (v, Deadline.synthRelease lane)).toList

/-- The next roll press of a lane's entry (R71). -/
def rollDues (lane : PanelId) (e : Option HoldEntry) : List Due :=
  match e with
  | none => []
  | some e => (e.nextPress.map fun v => (v, Deadline.rollPress lane)).toList

/-- The synthetic edges of an autoplay station: releases, then roll presses, by ascending lane; then the presses of notes in
queue order (R71). -/
def Station.synthDues (st : Station) : List Due :=
  if st.autoplay then
    panelIds.flatMap (fun lane => releaseDues lane (st.synth.get lane))
      ++ panelIds.flatMap (fun lane => rollDues lane (st.holds.get lane))
      ++ duesFrom (pressDues st.judge) 0 st.feed.queue
  else []

/-- The starvation test as a deadline: its value is H, or the start time while H is unset (R36). -/
def Station.starvationDues (st : Station) (start : Int) : List Due :=
  if st.state = .running && !st.feed.chartComplete && !st.feed.starved then
    match st.feed.horizon with
    | .unset => [(start, .starvation)]
    | .value h => [(h, .starvation)]
    | .unbounded => []
  else []

/-- A station's deadlines in the order in which equal values are taken (R45, R36): records, entries, synthetic edges, and the
starvation test last. -/
def Play.dues (p : Play) (i : StationId) : List Due :=
  let st := p.station i
  if st.inPlay then
    duesFrom (recordDues st.judge) 0 st.feed.queue
      ++ panelIds.flatMap (fun lane => entryDues lane (st.holds.get lane))
      ++ st.synthDues ++ st.starvationDues p.timeline.startTime
  else []

/-- The first of the lowest values. -/
def earliest : List Due → Option Due
  | [] => none
  | d :: ds =>
    match earliest ds with
    | none => some d
    | some m => if m.1 < d.1 then some m else some d

/-- The deadline that a station takes next: of those T has reached, the lowest, the first in order among equals (R45). -/
def Play.nextDue (p : Play) (i : StationId) : Option Due :=
  earliest ((p.dues i).filter fun d => decide (d.1 ≤ p.time))

/-- The station enters starvation (R36). -/
def Play.starve (p : Play) (i : StationId) : Play :=
  (p.modStation i fun st => { st with feed := { st.feed with starved := true } }).reportFeed i

/-- What is done with the record a deadline names. -/
def Play.withRecord (p : Play) (i : StationId) (k : Nat) (f : NoteRecord → Play) : Play :=
  match (p.station i).feed.queue[k]? with
  | none => p
  | some n => f n

/-- One deadline is taken, whole (R45). -/
def Play.takeDue (p : Play) (i : StationId) (down : Nine Bool) (d : Due) : Play :=
  match d.2 with
  | .noteClose k => p.withRecord i k fun n => p.settleTap i k n .miss none
  | .headClose k => p.withRecord i k fun n => p.closeHead i k n
  | .mineCheck k => p.withRecord i k fun n => p.checkMine i k n down
  | .mineClose k => p.withRecord i k fun n => p.closeMine i k n
  | .holdEnd lane => p.settleTail i lane .held
  | .holdDeadline lane => p.settleTail i lane .dropped
  | .synthRelease lane => p.releaseLane i lane d.1
  | .rollPress lane => p.pressRoll i lane d.1 down
  | .synthPress k => p.withRecord i k fun n => p.pressNote i k n down
  | .starvation => p.starve i

/-- A station's reached deadlines, one at a time in the order of R45, at most `fuel` of them (entry 27). -/
def Play.takeDues (i : StationId) (down : Nine Bool) : Nat → Play → Play
  | 0, p => p
  | fuel + 1, p =>
    match p.nextDue i with
    | none => p
    | some d => takeDues i down fuel (p.takeDue i down d)

/-- More than the deadlines a station can have reached at one T (entry 27). -/
def Play.dueBound (p : Play) (i : StationId) : Nat := 8 * (p.station i).feed.queue.length + 40

/-- A station takes all it has reached: its deadlines, and the song end time after them (R9, R45, R113). -/
def Play.settleStation (p : Play) (i : StationId) (down : Nine Bool) : Play :=
  (Play.takeDues i down (p.dueBound i) p).drainTest i

/-- Stations in the order given take all they have reached. -/
def Play.settleStations (p : Play) (down : Four (Nine Bool)) : List StationId → Play
  | [] => p
  | i :: is =>
    (if (p.station i).inPlay then p.settleStation i (down.get i) else p).settleStations down is

/-- An advance of T reaches every station in play, in ascending order (R113; entry 9). -/
def Play.settleAll (p : Play) (down : Four (Nine Bool)) : Play := p.settleStations down stationIds

/-! ### One reached deadline at a time: the rows of the table -/

/-- The station's next reached deadline is taken when it is of the kind a row names; otherwise the row's event does not come
about (entries 5 and 10). -/
def Play.takeIf (p : Play) (i : StationId) (down : Nine Bool) (kind : Deadline → Bool) : Play :=
  match p.nextDue i with
  | some d => if kind d.2 then p.takeDue i down d else p
  | none => p

end Sys2Proof.Machine
end

