-- ==== Sys2Proof/Machine/Timeline.lean ====
section
/-! DEFINITION. The song timeline (chapter 6): counting the sample clock (R112), the source monitor (R115 to R117), starting and
stopping (R118 to R121), anchors and steps (R122 to R126), and the meanings of its rows and requests. -/

namespace Sys2Proof.Machine

/-! ### Entering RUNNING (R7, R119) -/

/-- A LOADED station enters play: RUNNING, or DRAINING when its chart is complete (R7). -/
def Station.enter (st : Station) : Station :=
  if st.state = .loaded then { st with state := if st.feed.chartComplete then .draining else .running } else st

/-- One STATION report for each of the stations given, in their order (R7). -/
def Play.reportStations (p : Play) : List StationId → Play
  | [] => p
  | i :: is => (p.reportStation i).reportStations is

/-- The stations that are LOADED, in ascending order. -/
def Play.loadedStations (p : Play) : List StationId := stationIds.filter fun i => (p.station i).state == .loaded

/-- Every LOADED station enters play: all together, then their STATION reports, then each station's entry settlements,
starvation test and, as DRAINING, finishing test (R7, R67). -/
def Play.enterPlay (p : Play) (down : Four (Nine Bool)) : Play :=
  let entering := p.loadedStations
  let p := { p with stations := p.stations.map Station.enter }
  (p.reportStations entering).settleStations down entering

/-- The timeline enters RUNNING at `start` (R119, steps 1 to 3 and 5; the stamps of step 4 are moved by `startAt`). -/
def Play.startRunning (p : Play) (start : Int) (down : Four (Nine Bool)) : Play :=
  let p := p.modTimeline fun tl =>
    { tl with
      state := .running, t := start, r := 0, pendingStart := none, startTime := start, lock := .free, badAnchors := 0 }
  (p.reportTimeline .started 0).enterPlay down

/-- The song starts at `start`: T, the reports and the stations by R119, and the run stamps moved by the same amount
(R119 step 4, R127). -/
def startAt (start : Int) (s : State) : State :=
  s.moved (s.play.startRunning start s.downs) (start - s.play.time)

/-- The pending start of a timeline in STARTING is taken (R119). -/
def startPending (s : State) : State :=
  match s.play.timeline.state, s.play.timeline.pendingStart with
  | .starting, some start => startAt start s
  | _, _ => s

/-! ### Counting the sample clock (R111, R112, R115) -/

/-- T advanced by `n` µs, held at the top of its range with R at 0 (R111). -/
def Timeline.advance (tl : Timeline) (n r : Nat) : Timeline :=
  if tl.t + n > Config.tMax then { tl with t := Config.tMax, r := 0 } else { tl with t := tl.t + n, r := r }

/-- One AUDCLK increment (R112). -/
def Timeline.accumulate (tl : Timeline) : Timeline :=
  tl.advance ((tl.r + 1000000) / tl.rate) ((tl.r + 1000000) % tl.rate)

/-- T has advanced by running: the play blocks take what T has reached (R113). -/
def State.advanced (s : State) (f : Timeline → Timeline) : State :=
  { s with play := (s.play.modTimeline f).settleAll s.downs }

/-! ### The source monitor (R115 to R117) -/

/-- A rising edge restarts the loss timer and becomes the last edge (R112, R116). -/
def Timeline.noteEdge (now : Nat) (tl : Timeline) : Timeline := { tl with lastEdge := some now, lossTimer := 0 }

/-- An interval within ±10 % of the nominal period, in crystal periods (R116). -/
def wellSpaced (interval rate : Nat) : Bool :=
  9 * 12000000 ≤ 10 * interval * rate && 10 * interval * rate ≤ 11 * 12000000

/-- The edge run count after an edge in HOLDOVER; an edge with no previous edge is not well spaced (R116). -/
def Timeline.edgeRunAfter (tl : Timeline) (now : Nat) : Nat :=
  match tl.lastEdge with
  | none => 0
  | some before => if wellSpaced (now - before) tl.rate then tl.edgeRun + 1 else 0

/-- The source becomes EXTERNAL on the edge that completes the run, and a source change is reported (R116). -/
def Play.sourceReturn (p : Play) (now : Nat) : Play :=
  (p.modTimeline fun tl =>
    { tl with
      source := .external, r := 0, edgeRun := Config.edgeRunGoal, lossTimer := 0, lastEdge := some now }).reportTimeline
    .sourceChange 0

/-- A rising edge in HOLDOVER: its spacing is judged, and it may return the source (R116). -/
def Play.holdoverEdge (p : Play) (now : Nat) : Play :=
  if p.timeline.edgeRunAfter now ≥ Config.edgeRunGoal then p.sourceReturn now
  else p.modTimeline fun tl => { tl with edgeRun := tl.edgeRunAfter now, lastEdge := some now }

/-- A rising AUDCLK edge (R112, R116, R119). -/
def audclkEdge (s : State) : State :=
  match s.play.timeline.source with
  | .holdover => s.modPlay fun p => p.holdoverEdge s.localTime
  | .external =>
    let s := s.modPlay fun p => p.modTimeline (Timeline.noteEdge s.localTime)
    match s.play.timeline.state with
    | .stopped => s
    | .starting => startPending s
    | .running => s.advanced Timeline.accumulate

/-- The edge that completes the run of well-spaced edges in HOLDOVER; an edge that does not complete it is no such event
(R116; entry 5). -/
def sourceReturn (s : State) : State :=
  if s.play.timeline.source = .holdover ∧ s.play.timeline.edgeRunAfter s.localTime ≥ Config.edgeRunGoal then
    s.modPlay fun p => p.sourceReturn s.localTime
  else s

/-- A microsecond of HOLDOVER in RUNNING advances T by 1 (R115). -/
def holdoverTick (s : State) : State :=
  if s.play.timeline.state = .running ∧ s.play.timeline.source = .holdover then
    s.advanced fun tl => tl.advance 1 tl.r
  else s

/-- The source becomes HOLDOVER and the change is reported (R115). -/
def Play.sourceLoss (p : Play) : Play :=
  (p.modTimeline fun tl => { tl with source := .holdover, r := 0, edgeRun := 0, lossTimer := 0 }).reportTimeline
    .sourceChange 0

/-- The loss timer expires on EXTERNAL (R115); a timeline in STARTING then starts its song (R119). -/
def lossTimerExpiry (s : State) : State :=
  if s.play.timeline.source = .external then startPending (s.modPlay Play.sourceLoss) else s

/-! ### Requests -/

/-- CONFIG_TIMING is executed (R114). -/
def ownConfigTiming (rate tolerance : BitVec 32) : Owner := fun s =>
  let tol := setting 500 100000 tolerance.toNat
  if s.play.timeline.state ≠ .stopped then (.refuse .busy, s)
  else if rate.toNat < 8000 ∨ rate.toNat > 192000 then (.refuse .badArg, s)
  else
    (.okClamped tol.clamped (leBytes 4 rate.toNat ++ leBytes 4 tol.value),
      s.modPlay fun p => p.modTimeline fun tl =>
        { tl with rate := rate.toNat, tolerance := tol.value, r := 0, edgeRun := 0 })

/-- START_SONG is executed (R118). -/
def ownStartSong (start : BitVec 32) : Owner := fun s =>
  if s.play.timeline.state ≠ .stopped ∨ !s.play.anyLoaded then (.refuse .busy, s)
  else
    match s.play.timeline.source with
    | .external =>
      (.ok [], s.modPlay fun p => p.modTimeline fun tl =>
        { tl with state := .starting, pendingStart := some start.toInt })
    | .holdover => (.ok [], startAt start.toInt s)

/-- Every station in play is ended as ABORT_SONG ends it, in ascending order (R16). -/
def Play.endPlay (p : Play) : Play :=
  (p.abortStations (stationIds.filter fun i => (p.station i).inPlay)).1

/-- STOP_SONG is executed (R16, R121). -/
def ownStopSong : Owner := fun s =>
  match s.play.timeline.state with
  | .stopped => (.refuse .busy, s)
  | .starting => (.ok [], s.modPlay Play.stopTimeline)
  | .running => (.ok [], s.modPlay fun p => p.endPlay.stopTimeline)

/-- The lock is set, and a change of it is reported (R123). -/
def Play.setLock (p : Play) (lock : Lock) (badAnchors : Nat) : Play :=
  let q := p.modTimeline fun tl => { tl with lock := lock, badAnchors := badAnchors }
  if p.timeline.lock = lock then q else q.reportTimeline .lockChange 0

/-- The play blocks after a step to `target` by `amount` (R124 steps 1 to 3 and 5, R125, R126). -/
def Play.step (p : Play) (target amount : Int) (down : Four (Nine Bool)) : Play :=
  let p := p.modTimeline fun tl => { tl with t := target, r := 0, badAnchors := 0, lock := .locked }
  let p := p.reportTimeline .step (clampTime amount)
  if amount > 0 then { ({ p with afterStep := true }).settleAll down with afterStep := false } else p

/-- The timeline steps to `target` (R124). -/
def stepTo (target : Int) (s : State) : State :=
  let amount := target - s.play.time
  s.moved (s.play.step target amount s.downs) amount

/-- The reply of an ANCHOR (R122). -/
def anchorAnswer (diff : Int) (stepped : Bool) (tl : Timeline) : Answer :=
  .ok (leInt 4 (clampTime diff) ++ [codeByte tl.lock.code, codeByte tl.badAnchors, flagByte stepped])

/-- ANCHOR is executed (R122 to R124). -/
def ownAnchor (time : BitVec 32) : Owner := fun s =>
  let tl := s.play.timeline
  let diff := time.toInt - tl.t
  if tl.state ≠ .running then (.refuse .busy, s)
  else if diff.natAbs ≤ tl.tolerance then
    let s := s.modPlay fun p => p.setLock .locked 0
    (anchorAnswer diff false s.play.timeline, s)
  else if tl.badAnchors < 2 then
    let s := s.modPlay fun p => p.setLock .suspect (tl.badAnchors + 1)
    (anchorAnswer diff false s.play.timeline, s)
  else
    let s := stepTo time.toInt s
    (anchorAnswer diff true s.play.timeline, s)

/-! ### Meanings -/

/-- AUDCLK_EDGE (R112). -/
def execAudclkEdge (s : State) : Host.Outcome State Fault Refusal := .next (whenLive audclkEdge s)

/-- HOLDOVER_TICK (R115). -/
def execHoldoverTick (s : State) : Host.Outcome State Fault Refusal := .next (whenLive holdoverTick s)

/-- LOSS_TIMER_EXPIRY (R115). -/
def execLossTimerExpiry (s : State) : Host.Outcome State Fault Refusal := .next (whenLive lossTimerExpiry s)

/-- SOURCE_RETURN (R116). -/
def execSourceReturn (s : State) : Host.Outcome State Fault Refusal := .next (whenLive sourceReturn s)

/-- CONFIG_TIMING (R114). -/
def execConfigTiming (tag : Byte) (rate tolerance : BitVec 32) (s : State) : Host.Outcome State Fault Refusal :=
  .next (whenLive (serve 0x01 tag (ownConfigTiming rate tolerance)) s)

/-- START_SONG (R118). -/
def execStartSong (tag : Byte) (start : BitVec 32) (s : State) : Host.Outcome State Fault Refusal :=
  .next (whenLive (serve 0x20 tag (ownStartSong start)) s)

/-- STOP_SONG (R121). -/
def execStopSong (tag : Byte) (s : State) : Host.Outcome State Fault Refusal :=
  .next (whenLive (serve 0x21 tag ownStopSong) s)

/-- ANCHOR (R122). -/
def execAnchor (tag : Byte) (time : BitVec 32) (s : State) : Host.Outcome State Fault Refusal :=
  .next (whenLive (serve 0x22 tag (ownAnchor time)) s)

end Sys2Proof.Machine
end

