-- ==== Sys2Proof/Machine/NoteQueue.lean ====
section
/-! DEFINITION. The note queue's request (chapter 2): the checks of NOTE_BLOCK (R26 to R29), the taking of a block (R30, R31,
R33, R37, R64), and its reply (R29). -/

namespace Sys2Proof.Machine

/-! ### Checks -/

/-- The position of the first element that fails a test. -/
def firstFail (test : RawNote → Bool) (notes : List RawNote) : Option Nat := notes.findIdx? fun n => !test n

/-- The note times of a block that is in order, after a time that the next note must not precede (R28). -/
def orderFail (horizon : Horizon) : Option Int → Nat → List RawNote → Option Nat
  | _, _, [] => none
  | before, k, n :: ns =>
    let afterBefore := match before with
      | some b => decide (b ≤ n.time)
      | none => true
    let afterHorizon := match horizon with
      | .value h => decide (h ≤ n.time)
      | _ => true
    if afterBefore && afterHorizon then orderFail horizon (some n.time) (k + 1) ns else some k

/-- The time of a block's last note. -/
def lastTime (notes : List RawNote) : Int := (notes.getLast?.map RawNote.time).getD 0

/-- A refusal of a block: its status and the index of its reply (R29). -/
structure BlockRefusal where
  status : Status
  index : Nat
deriving DecidableEq, Repr

/-- Checks 2 to 5 on the notes of a block, in their order (R27 to R29). -/
def checkNotes (st : Station) (covered : Int) (notes : List RawNote) : Option BlockRefusal :=
  match firstFail RawNote.wellFormed notes with
  | some k => some ⟨.badNote, k⟩
  | none =>
    match firstFail (fun n => (n.lanes &&& ~~~ st.mask) = 0) notes with
    | some k => some ⟨.badLane, k⟩
    | none =>
      match orderFail st.feed.horizon st.feed.tailTime 0 notes with
      | some k => some ⟨.order, k⟩
      | none =>
        if covered < lastTime notes then some ⟨.order, 16⟩
        else if notes.length > st.feed.free then some ⟨.full, 255⟩
        else none

/-- A station that takes a block: LOADED or RUNNING, its chart not complete (R26). -/
def Station.takesNotes (st : Station) : Bool :=
  (st.state == .loaded || st.state == .running) && !st.feed.chartComplete

/-! ### Taking a block -/

/-- A note is VOID when the station is RUNNING and T has reached its close deadline (R30). -/
def RawNote.isVoid (st : Station) (t : Int) (n : RawNote) : Bool :=
  st.state == .running
    && decide ((if n.kind = some .mine then st.judge.mineCloseAt n.time else st.judge.closeAt n.time) ≤ t)

/-- The notes of a block are examined in block order: each is made VOID or appended (R30, R31). -/
def Play.joinNotes (i : StationId) : List RawNote → Play → Play
  | [], p => p
  | n :: ns, p =>
    Play.joinNotes i ns
      (if n.isVoid (p.station i) p.time then p.voidNote i n
      else p.modStation i fun st => { st with feed := { st.feed with queue := st.feed.queue ++ [n.record] } })

/-- The number of notes of a block that are made VOID (R29). -/
def voidCount (st : Station) (t : Int) (notes : List RawNote) : Nat :=
  (notes.filter (RawNote.isVoid st t)).length

/-- The deadline taken next at joining: of all that T has reached, everything but the starvation test, which the taking of a block
does not make (R32, R64). R30 and R64 name a mine's check and a synthetic press; what such a press itself sets at or below T, a
release or the end of an entry, is taken inside the block too: the model's choice, entry 44. -/
def Play.nextJoinDue (p : Play) (i : StationId) : Option Due :=
  earliest ((p.dues i).filter fun d => decide (d.1 ≤ p.time) && decide (d.2 ≠ .starvation))

/-- The deadlines already reached at joining are taken in deadline order (R64). -/
def Play.takeJoinDues (i : StationId) (down : Nine Bool) : Nat → Play → Play
  | 0, p => p
  | fuel + 1, p =>
    match p.nextJoinDue i with
    | none => p
    | some d => takeJoinDues i down fuel (p.takeDue i down d)

/-- H after an accepted block (R33). -/
def Horizon.raise (h : Horizon) (covered : Int) : Horizon :=
  match h with
  | .unset => .value covered
  | .value v => .value (max v covered)
  | .unbounded => .unbounded

/-- H is greater than T (R37). -/
def Horizon.above (h : Horizon) (t : Int) : Bool :=
  match h with
  | .unset => false
  | .value v => decide (t < v)
  | .unbounded => true

/-- The tail time, H and the starved flag after an accepted block (R23, R33, R37). -/
def Feed.afterBlock (f : Feed) (t : Int) (last covered : Int) : Feed :=
  { f with
    tailTime := some last
    horizon := f.horizon.raise covered
    starved := f.starved && !(f.horizon.raise covered).above t }

/-- A block is taken (R30; entry 11). Where a deadline taken at joining fails the station, the accepted block still sets its tail
time, H and starved flag (R30, R33, R37 against R10, R25): the model's choice, entry 41. -/
def Play.takeBlock (p : Play) (i : StationId) (down : Nine Bool) (covered : Int) (notes : List RawNote) : Play :=
  let p := p.joinNotes i notes
  let p := if (p.station i).state = .running then Play.takeJoinDues i down (p.dueBound i) p else p
  p.modStation i fun st => { st with feed := st.feed.afterBlock p.time (lastTime notes) covered }

/-! ### The reply and the request -/

/-- The fields of every NOTE_BLOCK reply (R29). -/
def blockFields (station : Byte) (free : Nat) (h : Horizon) (voided index : Nat) : List Byte :=
  [station, codeByte free] ++ h.bytes ++ [codeByte voided, codeByte index]

/-- A NOTE_BLOCK refused by the note queue for a station 0 to 3 (R29). -/
def blockRefused (station : Byte) (f : Feed) (r : BlockRefusal) : Answer :=
  { status := r.status, clamped := false, bytes := blockFields station f.free f.horizon 0 r.index }

/-- The fields of a NOTE_BLOCK refused before the note queue knew its station (R29). -/
def blockUnknown (status : Status) : Answer :=
  { status := status, clamped := false, bytes := blockFields 0 0 .unset 0 255 }

/-- The length-error counter rises (R178). -/
def State.lengthError (s : State) : State := s.modLink fun l => { l with lengthErrors := satAdd l.lengthErrors 1 }

/-- NOTE_BLOCK is executed on a payload the link port admits (R26 to R31). -/
def ownNoteBlock (payload : List Byte) : Owner := fun s =>
  let station := field8 payload 0
  match stationOf station with
  | none => (blockUnknown .badArg, s)
  | some i =>
    let st := s.play.station i
    if !st.takesNotes then (blockRefused station st.feed ⟨.busy, 255⟩, s)
    else
      let count := field payload 1 1
      let covered := (field32 payload 2).toInt
      match (if 1 ≤ count ∧ count ≤ Config.blockMax then walkNotes count (payload.drop 6) else none) with
      | none => (blockRefused station st.feed ⟨.badLength, 255⟩, s.lengthError)
      | some notes =>
        match checkNotes st covered notes with
        | some r => (blockRefused station st.feed r, s)
        | none =>
          let s' := s.modPlay fun p => p.takeBlock i (s.downs.get i) covered notes
          let f := (s'.play.station i).feed
          (.ok (blockFields station f.free f.horizon (voidCount st s.play.time notes) 255), s')

/-- The link port's length check on a NOTE_BLOCK (R171, R175), then its execution. -/
def admitNoteBlock (payload : List Byte) : Owner := fun s =>
  if 15 ≤ payload.length ∧ payload.length ≤ 214 then ownNoteBlock payload s
  else (blockUnknown .badLength, s.lengthError)

/-- NOTE_BLOCK (R26). -/
def execNoteBlock (tag : Byte) (payload : List Byte) (s : State) : Host.Outcome State Fault Refusal :=
  .next (whenLive (serve 0x11 tag (admitNoteBlock payload)) s)

end Sys2Proof.Machine
end

