-- ==== Sys2Proof/Machine/Stations.lean ====
section
/-! DEFINITION. The requests of station control, the judge, the hold table and the tally: LOAD_STATION (R1, R2), CHART_END (R6),
ABORT_SONG (R12), CLEAR_STATION (R19), CONFIG_JUDGE (R42), CONFIG_HOLDS (R91), CONFIG_SCORING (R96); and the rows of a station's
reached deadlines (R45). -/

namespace Sys2Proof.Machine

/-! ### Loading and clearing -/

/-- A station as LOAD_STATION prepares it (R2). -/
def Station.load (judge : JudgeConfig) (mask : LaneSet) (units life : Nat) (autoplay failEnable : Bool) : Station :=
  { Station.idle judge with
    state := .loaded
    laneMask := some mask
    autoplay := autoplay
    failEnable := failEnable
    tally := { Tally.zero with units := units, life := life } }

/-- LOAD_STATION is executed (R1, R2). -/
def ownLoadStation (f : LoadFields) : Owner := fun s =>
  match stationOf f.station with
  | none => (.refuse .badArg, s)
  | some i =>
    let st := s.play.station i
    if st.state ≠ .idle ∨ s.play.timeline.state ≠ .stopped then (.refuse .busy, s)
    else if laneField f.mask = 0 then (.refuse .badArg, s)
    else
      let units := setting 0 Config.unitsMax f.units.toNat
      let life := setting 1 Config.lifeMax f.startLife.toNat
      (.okClamped (units.clamped || life.clamped) [],
        s.modPlay fun p =>
          (p.setStation i (.load st.judge (laneField f.mask) units.value life.value (f.flags.getLsbD 1)
            (f.flags.getLsbD 0))).reportStation i)

/-- The chart of a station is complete (R6, R34). -/
def Feed.complete (f : Feed) (endTime : Int) : Feed :=
  { f with chartComplete := true, songEnd := some endTime, horizon := .unbounded, starved := false }

/-- A station's chart ends: a RUNNING station becomes DRAINING and comes under the finishing test (R6). -/
def Play.chartEnd (p : Play) (i : StationId) (endTime : Int) : Play :=
  let wasRunning := (p.station i).state == .running
  let p := p.modStation i fun st =>
    { st with
      feed := st.feed.complete endTime
      state := if st.state = .running then .draining else st.state }
  if wasRunning then (p.reportStation i).drainTest i else p

/-- CHART_END is executed (R6). -/
def ownChartEnd (station : Byte) (endTime : BitVec 32) : Owner := fun s =>
  match stationOf station with
  | none => (.refuse .badArg, s)
  | some i =>
    if (s.play.station i).takesNotes then (.ok [], s.modPlay fun p => p.chartEnd i endTime.toInt)
    else (.refuse .busy, s)

/-- ABORT_SONG is executed (R12). -/
def ownAbortSong (stations : Byte) : Owner := fun s =>
  match stationSet stations with
  | [] => (.refuse .badArg, s)
  | named =>
    let r := s.play.abortStations named
    (.ok (r.2.flatMap fun c => [codeByte c.1.val, codeByte c.2.code]), { s with play := r.1.abortTests })

/-- CLEAR_STATION is executed (R19). -/
def ownClearStation (station : Byte) : Owner := fun s =>
  match stationOf station with
  | none => (.refuse .badArg, s)
  | some i =>
    let st := s.play.station i
    if st.state = .finished then
      (.ok [], s.modPlay fun p => (p.setStation i (.idle st.judge)).reportStation i)
    else (.refuse .busy, s)

/-! ### Settings of judge, hold table and tally -/

/-- The settings of CONFIG_JUDGE as its reply carries them (R43). -/
def JudgeConfig.bytes (c : JudgeConfig) : List Byte :=
  leBytes 4 c.w1 ++ leBytes 4 c.w2 ++ leBytes 4 c.w3 ++ leBytes 4 c.w4 ++ leBytes 4 c.w5 ++ leBytes 4 c.wm
    ++ leInt 4 c.offset

/-- Each of the stations given takes a judge configuration (R43). -/
def Play.configJudge (p : Play) (c : JudgeConfig) : List StationId → Play
  | [] => p
  | i :: is => (p.modStation i fun st => { st with judge := c }).configJudge c is

/-- CONFIG_JUDGE is executed (R42, R43). -/
def ownConfigJudge (selector : Byte) (f : JudgeFields) : Owner := fun s =>
  match selected selector with
  | none => (.refuse .badArg, s)
  | some named =>
    if s.play.timeline.state ≠ .stopped then (.refuse .busy, s)
    else if !(judgeSettings f).increasing then (.refuse .badWindows, s)
    else
      (.okClamped (judgeClamped f) (judgeSettings f).bytes, s.modPlay fun p => p.configJudge (judgeSettings f) named)

/-- CONFIG_HOLDS is executed (R91). -/
def ownConfigHolds (grace rollGap : BitVec 32) : Owner := fun s =>
  if s.play.timeline.state ≠ .stopped then (.refuse .busy, s)
  else
    let g := setting 0 500000 grace.toNat
    let r := setting 50000 1000000 rollGap.toNat
    (.okClamped (g.clamped || r.clamped) (leBytes 4 g.value ++ leBytes 4 r.value),
      s.modPlay fun p => { p with grace := g.value, rollGap := r.value })

/-- The scoring table as the line carries it (R96). -/
def scoringBytes (table : PerResult ScoreRow) : List Byte :=
  table.toList.flatMap fun row => leBytes 2 row.points ++ leInt 2 row.life

/-- CONFIG_SCORING is executed (R96). -/
def ownConfigScoring (rows : PerResult ScoreField) : Owner := fun s =>
  if s.play.timeline.state ≠ .stopped then (.refuse .busy, s)
  else
    (.okClamped (rows.toList.any scoreRowClamped) (scoringBytes (rows.map scoreRow)),
      s.modPlay fun p => { p with scoring := rows.map scoreRow })

/-! ### Meanings of the requests -/

/-- LOAD_STATION (R1). -/
def execLoadStation (tag : Byte) (f : LoadFields) (s : State) : Host.Outcome State Fault Refusal :=
  .next (whenLive (serve 0x10 tag (ownLoadStation f)) s)

/-- CHART_END (R6). -/
def execChartEnd (tag station : Byte) (endTime : BitVec 32) (s : State) : Host.Outcome State Fault Refusal :=
  .next (whenLive (serve 0x12 tag (ownChartEnd station endTime)) s)

/-- ABORT_SONG (R12). -/
def execAbortSong (tag stations : Byte) (s : State) : Host.Outcome State Fault Refusal :=
  .next (whenLive (serve 0x13 tag (ownAbortSong stations)) s)

/-- CLEAR_STATION (R19). -/
def execClearStation (tag station : Byte) (s : State) : Host.Outcome State Fault Refusal :=
  .next (whenLive (serve 0x14 tag (ownClearStation station)) s)

/-- CONFIG_JUDGE (R42). -/
def execConfigJudge (tag selector : Byte) (f : JudgeFields) (s : State) : Host.Outcome State Fault Refusal :=
  .next (whenLive (serve 0x02 tag (ownConfigJudge selector f)) s)

/-- CONFIG_HOLDS (R91). -/
def execConfigHolds (tag : Byte) (grace rollGap : BitVec 32) (s : State) : Host.Outcome State Fault Refusal :=
  .next (whenLive (serve 0x03 tag (ownConfigHolds grace rollGap)) s)

/-- CONFIG_SCORING (R96). -/
def execConfigScoring (tag : Byte) (rows : PerResult ScoreField) (s : State) : Host.Outcome State Fault Refusal :=
  .next (whenLive (serve 0x04 tag (ownConfigScoring rows)) s)

/-! ### Reached deadlines, one row each (R45; entries 5 and 10) -/

/-- A station's next reached deadline is taken when it is of the kind given. -/
def takeRow (i : StationId) (kind : Deadline → Bool) (s : State) : State :=
  s.modPlay fun p => p.takeIf i (s.downs.get i) kind

/-- NOTE_CLOSE (R59). -/
def execNoteClose (i : StationId) (s : State) : Host.Outcome State Fault Refusal :=
  .next (whenLive (takeRow i fun | .noteClose _ => true | _ => false) s)

/-- HEAD_CLOSE (R60). -/
def execHeadClose (i : StationId) (s : State) : Host.Outcome State Fault Refusal :=
  .next (whenLive (takeRow i fun | .headClose _ => true | _ => false) s)

/-- MINE_CHECK (R62). -/
def execMineCheck (i : StationId) (s : State) : Host.Outcome State Fault Refusal :=
  .next (whenLive (takeRow i fun | .mineCheck _ => true | _ => false) s)

/-- MINE_CLOSE (R63). -/
def execMineClose (i : StationId) (s : State) : Host.Outcome State Fault Refusal :=
  .next (whenLive (takeRow i fun | .mineClose _ => true | _ => false) s)

/-- EFFECTIVE_END_REACHED (R84). -/
def execEffectiveEndReached (i : StationId) (s : State) : Host.Outcome State Fault Refusal :=
  .next (whenLive (takeRow i fun | .holdEnd _ => true | _ => false) s)

/-- HOLD_DEADLINE_REACHED (R83). -/
def execHoldDeadlineReached (i : StationId) (s : State) : Host.Outcome State Fault Refusal :=
  .next (whenLive (takeRow i fun | .holdDeadline _ => true | _ => false) s)

/-- SYNTHETIC_PRESS (R69). -/
def execSyntheticPress (i : StationId) (s : State) : Host.Outcome State Fault Refusal :=
  .next (whenLive (takeRow i fun | .synthPress _ => true | _ => false) s)

/-- SYNTHETIC_RELEASE (R71). -/
def execSyntheticRelease (i : StationId) (s : State) : Host.Outcome State Fault Refusal :=
  .next (whenLive (takeRow i fun | .synthRelease _ => true | _ => false) s)

/-- ROLL_PRESS (R71). -/
def execRollPress (i : StationId) (s : State) : Host.Outcome State Fault Refusal :=
  .next (whenLive (takeRow i fun | .rollPress _ => true | _ => false) s)

/-- STARVATION (R36). -/
def execStarvation (i : StationId) (s : State) : Host.Outcome State Fault Refusal :=
  .next (whenLive (takeRow i fun | .starvation => true | _ => false) s)

/-- SONG_END_REACHED (R9). -/
def execSongEndReached (i : StationId) (s : State) : Host.Outcome State Fault Refusal :=
  .next (whenLive (fun s => s.modPlay fun p => p.drainTest i) s)

end Sys2Proof.Machine
end

