-- ==== Sys2Proof/Machine/Panels.lean ====
section
/-! DEFINITION. The panel unit (chapter 8): the panel state machine (R147, R148, R151 to R154), the delivery of edges (R155),
occupancy (R157), the service combo (R159), the taking of a scan (R146), and the requests and rows of this block. -/

namespace Sys2Proof.Machine

/-! ### Reaching a panel -/

def State.panelStation (s : State) (i : StationId) : PanelStation := s.panels.get i

def State.modPanelStation (s : State) (i : StationId) (f : PanelStation → PanelStation) : State :=
  { s with panels := s.panels.modify i f }

def State.panel (s : State) (i : StationId) (j : PanelId) : Panel := (s.panelStation i).panels.get j

def State.setPanel (s : State) (i : StationId) (j : PanelId) (p : Panel) : State :=
  s.modPanelStation i fun ps => { ps with panels := ps.panels.set j p }

/-- A report is queued (R183). -/
def State.report (s : State) (body : ReportBody) : State := s.modPlay fun p => p.report body

/-! ### Edges (R149, R155, R157) -/

/-- A physical edge: a press or a release, with its stamp (R149). -/
inductive Edge where
  | press (stamp : Int)
  | release (stamp : Int)
deriving DecidableEq, Repr

/-- The stamp an edge carries when it is given: the stamp of its run or scan in RUNNING, and the held T in STOPPED and STARTING (R110,
R149; entry 45). -/
def Play.edgeStamp (p : Play) (stamp : Int) : Int := if p.timeline.state = .running then stamp else p.time

/-- An edge as it is given, with the stamp it carries (R110, R149). -/
def Edge.given (p : Play) : Edge → Edge
  | .press stamp => .press (p.edgeStamp stamp)
  | .release stamp => .release (p.edgeStamp stamp)

/-- A press edge comes to occupancy (R157). -/
def arrive (i : StationId) (s : State) : State :=
  let ps := s.panelStation i
  let s := s.modPanelStation i fun ps =>
    { ps with occupied := true, occupancyTimer := 0, armed := ps.armed && ps.occupied }
  if !ps.occupied && ps.armed then s.report (.presence i false) else s

/-- Step 1 of a delivery: the PRESS or RELEASE report of an enabled station (R155, R187). -/
def reportEdge (i : StationId) (j : PanelId) (e : Edge) (s : State) : State :=
  if s.play.reports.pressEnables.get i then
    match e with
    | .press stamp => s.report (.press i j stamp)
    | .release stamp => s.report (.release i j stamp)
  else s

/-- Step 2 of a delivery: the edge is offered to the judge (R47, R48, R155). -/
def judgeEdge (i : StationId) (j : PanelId) (e : Edge) (s : State) : State :=
  match e with
  | .press stamp => s.modPlay fun p => p.offerPress i j stamp false (s.downs.get i)
  | .release stamp => s.modPlay fun p => p.offerRelease i j stamp false

/-- Step 3 of a delivery: occupancy takes a press (R155). -/
def occupyEdge (i : StationId) (e : Edge) (s : State) : State :=
  match e with
  | .press _ => arrive i s
  | .release _ => s

/-- A physical edge is given, with the stamp it carries (R149), and delivered whole (R155). -/
def deliverEdge (i : StationId) (j : PanelId) (e : Edge) (s : State) : State :=
  let e := e.given s.play
  occupyEdge i e (judgeEdge i j e (reportEdge i j e s))

/-- An edge that a panel may have given is delivered. -/
def deliver (i : StationId) (j : PanelId) (e : Option Edge) (s : State) : State :=
  match e with
  | none => s
  | some e => deliverEdge i j e s

/-! ### The state machine -/

/-- What a panel's move on its load gives: the panel, its edge, and whether it entered PRESSED with its timer at 0 (R150). -/
structure PanelMove where
  panel : Panel
  edge : Option Edge
  entered : Bool
deriving DecidableEq, Repr

def PanelMove.stay (p : Panel) : PanelMove := { panel := p, edge := none, entered := false }

/-- The panel becomes PRESSED and gives a press edge (R147). -/
def Panel.confirmPress (p : Panel) (stamp : Int) : PanelMove :=
  { panel := { p with state := .pressed, stuckTimer := 0 }, edge := some (.press stamp), entered := true }

/-- The panel becomes RELEASED and gives a release edge (R148). -/
def Panel.confirmRelease (p : Panel) (stamp : Int) : PanelMove :=
  { panel := { p with state := .released, stuckTimer := 0 }, edge := some (.release stamp), entered := false }

/-- A press run with this stamp and count: confirmed, or under way (R147). -/
def Panel.pressRun (p : Panel) (stamp : Int) (count : Nat) : PanelMove :=
  if count ≥ p.config.dOn then p.confirmPress stamp else .stay { p with state := .pressing stamp count }

/-- A release run with this stamp and count: confirmed, or under way (R148). -/
def Panel.releaseRun (p : Panel) (stamp : Int) (count : Nat) : PanelMove :=
  if count ≥ p.config.dOff then p.confirmRelease stamp else .stay { p with state := .releasing stamp count }

/-- A STUCK panel leaves, with no edge, or counts on (R152). -/
def Panel.stuckRun (p : Panel) (count : Nat) : PanelMove :=
  if count ≥ p.config.dOff then .stay { p with state := .released, stuckTimer := 0 }
  else .stay { p with state := .stuck count }

/-- A panel's state moves on its scan's load (R147, R148, R152); a DEAD panel takes no load (R153). -/
def Panel.move (p : Panel) (scanStamp : Int) (load : Nat) : PanelMove :=
  match p.state with
  | .released => if load ≥ p.config.tOn then p.pressRun scanStamp 1 else .stay p
  | .pressing stamp count =>
    if load ≥ p.config.tOn then p.pressRun stamp (count + 1) else .stay { p with state := .released, stuckTimer := 0 }
  | .pressed => if load < p.config.tOff then p.releaseRun scanStamp 1 else .stay p
  | .releasing stamp count =>
    if load < p.config.tOff then p.releaseRun stamp (count + 1) else .stay { p with state := .pressed }
  | .stuck count => if load < p.config.tOff then p.stuckRun (count + 1) else .stay { p with state := .stuck 0 }
  | .dead => .stay p

/-- The release edge a panel that becomes DEAD gives (R153). -/
def PanelState.deathEdge (scanStamp : Int) : PanelState → Option Edge
  | .pressed => some (.release scanStamp)
  | .releasing stamp _ => some (.release stamp)
  | _ => none

/-- A panel becomes DEAD: its FAULT report, then its release (R153). -/
def becomeDead (i : StationId) (j : PanelId) (scanStamp : Int) (s : State) : State :=
  let p := s.panel i j
  let s := s.setPanel i j { p with state := .dead, stuckTimer := 0 }
  deliver i j (p.state.deathEdge scanStamp) (s.report (.fault i j.val .panelDead))

/-- The scan period in stuck, occupancy and combo timers (R145, R150). -/
def timerStep : Nat := Config.scanPeriod

/-- A panel becomes STUCK: its latch, its FAULT report, then its release (R151), delivered whole at this scan (R155). A hold entry made
on the lane after the scan gets no release from it, whatever R161's last sentence says of that order: the model's choice, entry
46. -/
def becomeStuck (i : StationId) (j : PanelId) (scanStamp : Int) (s : State) : State :=
  let s := s.setPanel i j { s.panel i j with state := .stuck 0, stuckTimer := 0, stuckLatch := true }
  deliverEdge i j (.release scanStamp) (s.report (.fault i j.val .panelStuck))

/-- The stuck timer of a panel may advance: the panel is down and its lane holds no entry (R150). -/
def stuckRuns (i : StationId) (j : PanelId) (s : State) : Bool :=
  (s.panel i j).isDown && ((s.play.station i).holds.get j).isNone

/-- An advanced stuck timer reaches the stuck time (R151). -/
def stuckDue (p : Panel) : Bool := p.stuckTimer + timerStep ≥ p.config.stuckTime * 1000000

/-- The stuck timer is advanced and tested (R150, R151). -/
def advanceStuck (i : StationId) (j : PanelId) (scanStamp : Int) (entered : Bool) (s : State) : State :=
  let p := s.panel i j
  if !entered && stuckRuns i j s then
    if stuckDue p then becomeStuck i j scanStamp s
    else s.setPanel i j { p with stuckTimer := p.stuckTimer + timerStep }
  else s

/-- A recovery event of one of a panel's channels: a DEAD panel returns to RELEASED (R154). -/
def recoverPanel (i : StationId) (j : PanelId) (s : State) : State :=
  let p := s.panel i j
  if p.state = .dead then s.setPanel i j { p with state := .released, stuckTimer := 0 } else s

/-- The load steps of a panel with a healthy channel: its move, its edge, its stuck timer (R146, steps 2 and 3). -/
def takeLoad (i : StationId) (j : PanelId) (scanStamp : Int) (load : Nat) (s : State) : State :=
  let m := (s.panel i j).move scanStamp load
  advanceStuck i j scanStamp m.entered (deliver i j m.edge (s.setPanel i j m.panel))

/-- What the scanner hands over for one panel: L, k and whether a channel recovered (R139, R146). -/
structure PanelScan where
  load : Nat
  healthy : Nat
  recovered : Bool
deriving DecidableEq, Repr

/-- One panel is taken through a scan (R146). -/
def takePanel (i : StationId) (j : PanelId) (scanStamp : Int) (scan : PanelScan) (s : State) : State :=
  let s :=
    if scan.healthy = 0 then
      if (s.panel i j).state = .dead then s else becomeDead i j scanStamp s
    else takeLoad i j scanStamp scan.load s
  if scan.recovered then recoverPanel i j s else s

/-! ### Occupancy and the combo -/

/-- A station becomes VACANT (R157). -/
def becomeVacant (i : StationId) (s : State) : State :=
  (s.modPanelStation i fun ps => { ps with occupied := false, occupancyTimer := 0 }).report (.presence i true)

/-- The occupancy timer may advance (R157). -/
def PanelStation.agingRuns (ps : PanelStation) : Bool :=
  ps.occupied && ps.occupancyAge ≠ 0 && !(ps.panels.any Panel.isDown)

/-- An advanced occupancy timer reaches the age (R157). -/
def PanelStation.vacancyDue (ps : PanelStation) : Bool := ps.occupancyTimer + timerStep ≥ ps.occupancyAge * 1000000

/-- The occupancy timer is advanced and tested (R157). -/
def advanceOccupancy (i : StationId) (s : State) : State :=
  let ps := s.panelStation i
  if ps.agingRuns then
    if ps.vacancyDue then becomeVacant i s
    else s.modPanelStation i fun ps => { ps with occupancyTimer := ps.occupancyTimer + timerStep }
  else s

/-- Every panel of the combo set is down (R159). -/
def PanelStation.comboHeld (ps : PanelStation) : Bool :=
  (LaneSet.lanes ps.comboLanes).all fun j => (ps.panels.get j).isDown

/-- Some panel of the combo set is down (R159). -/
def PanelStation.comboTouched (ps : PanelStation) : Bool :=
  (LaneSet.lanes ps.comboLanes).any fun j => (ps.panels.get j).isDown

/-- An advanced combo timer reaches the hold time (R159). -/
def PanelStation.comboDue (ps : PanelStation) : Bool := ps.comboTimer + timerStep ≥ ps.comboHold * 1000000

/-- A service-combo abort acts on its station as an ABORT_SONG naming it alone (R15). -/
def Play.serviceAbort (p : Play) (i : StationId) : Play := (p.abortStation i).1.abortTests

/-- The combo fires: SERVICE, SPENT, and the abort when flagged (R15, R159). -/
def fireCombo (i : StationId) (s : State) : State :=
  let ps := s.panelStation i
  let s := (s.modPanelStation i fun ps => { ps with comboSpent := true, comboTimer := 0 }).report (.service i)
  if ps.comboAbort then s.modPlay fun p => p.serviceAbort i else s

/-- The combo is taken at the end of a station's scan (R159). -/
def advanceCombo (i : StationId) (s : State) : State :=
  let ps := s.panelStation i
  if ps.comboLanes = 0 then s
  else if ps.comboSpent then
    if ps.comboTouched then s else s.modPanelStation i fun ps => { ps with comboSpent := false, comboTimer := 0 }
  else if ps.comboHeld then
    if ps.comboDue then fireCombo i s
    else s.modPanelStation i fun ps => { ps with comboTimer := ps.comboTimer + timerStep }
  else s.modPanelStation i fun ps => { ps with comboTimer := 0 }

/-- The panels of a station are taken in panel order (R146). -/
def takePanels (i : StationId) (scanStamp : Int) (scans : Nine PanelScan) : List PanelId → State → State
  | [], s => s
  | j :: js, s => takePanels i scanStamp scans js (takePanel i j scanStamp (scans.get j) s)

/-- The panel unit takes a station's scan: its panels, its occupancy, its combo (R146). -/
def takeScan (i : StationId) (scanStamp : Int) (scans : Nine PanelScan) (s : State) : State :=
  advanceCombo i (advanceOccupancy i (takePanels i scanStamp scans panelIds s))

/-! ### Requests -/

/-- The panel settings of the named panels of one station, and its occupancy age (R156). -/
def PanelStation.configure (set : LaneSet) (c : PanelConfig) (age : Nat) (ps : PanelStation) : PanelStation :=
  { ps with
    panels := ps.panels.mapIdx fun j p => if LaneSet.has set j then { p with config := c } else p
    occupancyAge := age }

/-- A change made to each of the stations given. -/
def modStations (f : PanelStation → PanelStation) : List StationId → State → State
  | [], s => s
  | i :: is, s => modStations f is (s.modPanelStation i f)

/-- CONFIG_PANELS is executed (R156). With an empty panel set the reply's five panel values are those of the request after
clamping, stored on no panel: the model's choice, entry 42. -/
def ownConfigPanels (f : PanelFields) : Owner := fun s =>
  match selected f.selector with
  | none => (.refuse .badArg, s)
  | some named =>
    let c := panelSettings f
    (.okClamped (panelsClamped f)
      (leBytes 2 c.tOn ++ leBytes 2 c.tOff ++ [codeByte c.dOn, codeByte c.dOff, codeByte c.stuckTime]
        ++ leBytes 2 (ageSetting f)),
      modStations (PanelStation.configure (laneField f.panels) c (ageSetting f)) named s)

/-- CONFIG_COMBO is executed (R160). Bits 1 to 7 of its flag byte are ignored: the model's choice, entry 42. -/
def ownConfigCombo (f : ComboFields) : Owner := fun s =>
  match selected f.selector with
  | none => (.refuse .badArg, s)
  | some named =>
    let hold := setting 1 10 f.holdTime.toNat
    (.okClamped hold.clamped
      (laneBytes (laneField f.lanes) ++ [codeByte hold.value, flagByte (f.flags.getLsbD 0)]),
      modStations
        (fun ps =>
          { ps with
            comboLanes := laneField f.lanes, comboHold := hold.value, comboAbort := f.flags.getLsbD 0,
            comboTimer := 0, comboSpent := false })
        named s)

/-- ARM_PRESENCE is executed (R158). -/
def ownArmPresence (station : Byte) : Owner := fun s =>
  match stationOf station with
  | none => (.refuse .badArg, s)
  | some i =>
    (.ok [flagByte (s.panelStation i).occupied], s.modPanelStation i fun ps => { ps with armed := true })

/-- CONFIG_REPORTS is executed (R187). -/
def ownConfigReports (stations : Byte) : Owner := fun s =>
  let enables : Four Bool := ⟨stations.getLsbD 0, stations.getLsbD 1, stations.getLsbD 2, stations.getLsbD 3⟩
  (.ok [codeByte (maskNat enables.toList)],
    s.modPlay fun p => { p with reports := { p.reports with pressEnables := enables } })

/-! ### The rows of the panel unit: parts of a scan's work (entry 25) -/

/-- A press run that the present scan completes (R147). Put with no scan under way, the row takes the last scan's stamp as it stands: the
model's choice, entry 25. -/
def pressConfirm (i : StationId) (j : PanelId) (s : State) : State :=
  let p := s.panel i j
  match p.state with
  | .released =>
    if p.config.dOn ≤ 1 then
      deliver i j (p.confirmPress s.scanner.scanStamp).edge (s.setPanel i j (p.confirmPress s.scanner.scanStamp).panel)
    else s
  | .pressing stamp count =>
    if p.config.dOn ≤ count + 1 then deliver i j (p.confirmPress stamp).edge (s.setPanel i j (p.confirmPress stamp).panel)
    else s
  | _ => s

/-- A release run that the present scan completes (R148). Put with no scan under way, the row takes the last scan's stamp as it stands:
the model's choice, entry 25. -/
def releaseConfirm (i : StationId) (j : PanelId) (s : State) : State :=
  let p := s.panel i j
  match p.state with
  | .pressed =>
    if p.config.dOff ≤ 1 then
      deliver i j (p.confirmRelease s.scanner.scanStamp).edge
        (s.setPanel i j (p.confirmRelease s.scanner.scanStamp).panel)
    else s
  | .releasing stamp count =>
    if p.config.dOff ≤ count + 1 then
      deliver i j (p.confirmRelease stamp).edge (s.setPanel i j (p.confirmRelease stamp).panel)
    else s
  | _ => s

/-- An exit count that the present scan completes (R152). -/
def stuckExit (i : StationId) (j : PanelId) (s : State) : State :=
  let p := s.panel i j
  match p.state with
  | .stuck count => if p.config.dOff ≤ count + 1 then s.setPanel i j { p with state := .released, stuckTimer := 0 } else s
  | _ => s

/-- A stuck timer that the present scan brings to the stuck time (R151). Put with no scan under way, the row takes the last scan's stamp
as it stands: the model's choice, entry 25. -/
def panelStuck (i : StationId) (j : PanelId) (s : State) : State :=
  if stuckRuns i j s && stuckDue (s.panel i j) then becomeStuck i j s.scanner.scanStamp s else s

/-- An occupancy timer that the present scan brings to the age (R157). -/
def occupancyVacant (i : StationId) (s : State) : State :=
  if (s.panelStation i).agingRuns && (s.panelStation i).vacancyDue then becomeVacant i s else s

/-- A combo timer that the present scan brings to the hold time (R159). -/
def serviceCombo (i : StationId) (s : State) : State :=
  let ps := s.panelStation i
  if ps.comboLanes ≠ 0 ∧ !ps.comboSpent ∧ ps.comboHeld ∧ ps.comboDue then fireCombo i s else s

/-! ### Meanings -/

/-- CONFIG_PANELS (R156). -/
def execConfigPanels (tag : Byte) (f : PanelFields) (s : State) : Host.Outcome State Fault Refusal :=
  .next (whenLive (serve 0x05 tag (ownConfigPanels f)) s)

/-- CONFIG_COMBO (R160). -/
def execConfigCombo (tag : Byte) (f : ComboFields) (s : State) : Host.Outcome State Fault Refusal :=
  .next (whenLive (serve 0x06 tag (ownConfigCombo f)) s)

/-- CONFIG_REPORTS (R187). -/
def execConfigReports (tag stations : Byte) (s : State) : Host.Outcome State Fault Refusal :=
  .next (whenLive (serve 0x07 tag (ownConfigReports stations)) s)

/-- ARM_PRESENCE (R158). -/
def execArmPresence (tag station : Byte) (s : State) : Host.Outcome State Fault Refusal :=
  .next (whenLive (serve 0x15 tag (ownArmPresence station)) s)

/-- PRESS_CONFIRM (R147). -/
def execPressConfirm (i : StationId) (j : PanelId) (s : State) : Host.Outcome State Fault Refusal :=
  .next (whenLive (pressConfirm i j) s)

/-- RELEASE_CONFIRM (R148). -/
def execReleaseConfirm (i : StationId) (j : PanelId) (s : State) : Host.Outcome State Fault Refusal :=
  .next (whenLive (releaseConfirm i j) s)

/-- STUCK_EXIT (R152). -/
def execStuckExit (i : StationId) (j : PanelId) (s : State) : Host.Outcome State Fault Refusal :=
  .next (whenLive (stuckExit i j) s)

/-- PANEL_STUCK (R151). -/
def execPanelStuck (i : StationId) (j : PanelId) (s : State) : Host.Outcome State Fault Refusal :=
  .next (whenLive (panelStuck i j) s)

/-- OCCUPANCY_VACANT (R157). -/
def execOccupancyVacant (i : StationId) (s : State) : Host.Outcome State Fault Refusal :=
  .next (whenLive (occupancyVacant i) s)

/-- SERVICE_COMBO (R159). -/
def execServiceCombo (i : StationId) (s : State) : Host.Outcome State Fault Refusal :=
  .next (whenLive (serviceCombo i) s)

end Sys2Proof.Machine
end

