-- ==== Sys2Proof/Machine/Scan.lean ====
section
/-! DEFINITION. The sensor scanner (chapter 7): a channel's work in a scan (R132 to R138), panel loads (R135), the scan's start
and completion (R130, R131, R139), and the requests and rows of this block. -/

namespace Sys2Proof.Machine

/-! ### One channel -/

/-- A rail sample (R136). -/
def isRail (raw : Nat) : Bool := raw ≤ Config.railLow || raw ≥ Config.railHigh

/-- B16 drawn toward a resting sample (R134). -/
def learned (b16 raw : Nat) : Nat := ((b16 : Int) + ((raw * 16 : Int) - b16).tdiv 64).toNat

/-- A channel's load (R135). -/
def loadOf (raw b16 : Nat) : Nat := raw - b16 / 16

/-- Step 2: a GOOD channel whose seed is pending is seeded (R133). -/
def Channel.seed (c : Channel) : Channel :=
  if !c.faulty && c.seedPending then { c with b16 := c.raw * 16, seedPending := false } else c

/-- A GOOD channel is learned (R134). -/
def Channel.learn (c : Channel) : Channel := if c.faulty then c else { c with b16 := learned c.b16 c.raw }

/-- Steps 1 to 4 of a channel's work: its sample is stored, the rail test made, the seed taken, the load formed, and in a
learning scan of a RELEASED panel a channel not seeded in this scan is learned (R132). The rail count is held at the top of its
range, which no run of whole scans passes (R136; entry 40). -/
def Channel.scan (learning : Bool) (sample : BitVec 12) (c : Channel) : Channel :=
  let c1 : Channel :=
    { c with raw := sample.toNat, railCount := min Config.railTop (c.railCount + if isRail sample.toNat then 1 else 0) }
  let c2 := c1.seed
  let c3 : Channel := { c2 with load := loadOf c2.raw c2.b16 }
  if learning && !(c1.seedPending && !c1.faulty) then c3.learn else c3

/-- A channel at its block's end: FAULTY from a rail count of 915 (R137), GOOD again with its seed pending at 10 or less
(R138); its count returns to 0 (R136). -/
def Channel.blockEnd (c : Channel) : Channel :=
  if c.railCount ≥ Config.railFail && !c.faulty then { c with faulty := true, latch := true, railCount := 0 }
  else if c.railCount ≤ Config.railRecover && c.faulty then { c with faulty := false, seedPending := true, railCount := 0 }
  else { c with railCount := 0 }

/-- The health change of a block's end, if any (R137, R138). -/
def Channel.healthEvent (before after : Channel) : Option FaultEvent :=
  if !before.faulty && after.faulty then some .channelFaulty
  else if before.faulty && !after.faulty then some .channelRecovered
  else none

/-- Whether one of a panel's channels recovered (R139). -/
def anyRecovered (before after : Four Channel) : Bool :=
  (before.v0.faulty && !after.v0.faulty) || (before.v1.faulty && !after.v1.faulty)
    || (before.v2.faulty && !after.v2.faulty) || (before.v3.faulty && !after.v3.faulty)

/-! ### Panel loads -/

/-- k, the number of GOOD channels (R135). -/
def healthyCount (cs : Four Channel) : Nat := (cs.toList.filter fun c => !c.faulty).length

/-- The sum of the loads of the GOOD channels (R135). -/
def healthySum (cs : Four Channel) : Nat := ((cs.toList.filter fun c => !c.faulty).map Channel.load).sum

/-- L, the panel load (R135); 0 with no GOOD channel. -/
def panelLoad (cs : Four Channel) : Nat := 4 * healthySum cs / healthyCount cs

/-! ### A station's scan -/

/-- A station's channels after steps 1 to 4 of a scan (R132). -/
def scanChannels (learning : Nine Bool) (samples : Samples) (cs : Nine (Four Channel)) : Nine (Four Channel) :=
  cs.mapIdx fun j four =>
    { v0 := four.v0.scan (learning.get j) (samples.get j).v0
      v1 := four.v1.scan (learning.get j) (samples.get j).v1
      v2 := four.v2.scan (learning.get j) (samples.get j).v2
      v3 := four.v3.scan (learning.get j) (samples.get j).v3 }

/-- A station's channels after a block's end (R137, R138). -/
def endBlock (cs : Nine (Four Channel)) : Nine (Four Channel) := cs.map fun four => four.map Channel.blockEnd

/-- The channel number of a panel's corner (section 7.1). -/
def channelNumber (j : PanelId) (corner : Nat) : Nat := 4 * j.val + corner

/-- The health changes of one panel's channels, in channel order. -/
def panelEvents (j : PanelId) (before after : Four Channel) : List (Nat × FaultEvent) :=
  ((before.v0.healthEvent after.v0).map fun e => (channelNumber j 0, e)).toList
    ++ ((before.v1.healthEvent after.v1).map fun e => (channelNumber j 1, e)).toList
    ++ ((before.v2.healthEvent after.v2).map fun e => (channelNumber j 2, e)).toList
    ++ ((before.v3.healthEvent after.v3).map fun e => (channelNumber j 3, e)).toList

/-- The health changes of a station's channels, in channel order (R139). -/
def stationEvents (before after : Nine (Four Channel)) : List (Nat × FaultEvent) :=
  panelIds.flatMap fun j => panelEvents j (before.get j) (after.get j)

/-- One FAULT report for each health change (R140). -/
def reportFaults (i : StationId) : List (Nat × FaultEvent) → State → State
  | [], s => s
  | (n, e) :: es, s => reportFaults i es (s.report (.fault i n e))

/-- A station's channels are replaced. -/
def State.modScan (s : State) (i : StationId) (f : ScanStation → ScanStation) : State :=
  { s with scanner := { s.scanner with stations := s.scanner.stations.modify i f } }

/-- Which panels of the part are RELEASED, as a scan reads them at its start (R134, R155). -/
def State.released (s : State) : Four (Nine Bool) :=
  s.panels.map fun ps => ps.panels.map fun p => decide (p.state = .released)

/-- Which panels' channels learn in the scan under way (R132 step 4, R134). -/
def learningPanels (s : State) (i : StationId) : Nine Bool :=
  if s.scanner.learnPhase = Config.learnPhase then s.scanner.rested.get i else .all false

/-- What the scanner hands the panel unit (R135, R139). -/
def handOver (scanned ended : Nine (Four Channel)) : Nine PanelScan :=
  scanned.mapIdx fun j four =>
    { load := panelLoad four, healthy := healthyCount four, recovered := anyRecovered four (ended.get j) }

/-- The two counters that serve all channels advance after the last station's work (R132). -/
def Scanner.nextPhase (sc : Scanner) : Scanner :=
  { sc with
    learnPhase := if sc.learnPhase = Config.learnPhase then 0 else sc.learnPhase + 1
    blockPos := if sc.blockPos = Config.blockEnd then 0 else sc.blockPos + 1 }

/-- A station's samples are in: when it was the last station of the scan, the counters advance (R132; entry 23). -/
def Scanner.finishStation (i : StationId) (sc : Scanner) : Scanner :=
  let sc := { sc with waiting := sc.waiting.set i false }
  if sc.waiting.any id then sc else sc.nextPhase

/-- A station's scan is completed with its samples (R130, R132, R139, R146). The health that a block's end changes is the health
GET_SENSORS returns from then on, beside the loads of that scan, though the loads follow it from the next scan (R137, R142): the
model's choice, entry 39. -/
def completeScan (i : StationId) (samples : Samples) (s : State) : State :=
  let stamp := s.scanner.scanStamp
  let old := (s.scanner.stations.get i).channels
  let scanned := scanChannels (learningPanels s i) samples old
  let ended := if s.scanner.blockPos = Config.blockEnd then endBlock scanned else scanned
  let s := s.modScan i fun _ => { channels := ended, loads := scanned.map panelLoad, stamp := stamp }
  let s := takeScan i stamp (handOver scanned ended) (reportFaults i (stationEvents scanned ended) s)
  { s with scanner := s.scanner.finishStation i }

/-- SCAN_COMPLETE for a station whose samples of the scan under way are not yet in (entry 23). -/
def scanComplete (i : StationId) (samples : Samples) (s : State) : State :=
  if s.scanner.waiting.get i then completeScan i samples s else s

/-- A scan begins: it reads T as its stamp and the panels that are RELEASED, and every station's samples are awaited (R130, R131,
R134). A scan that begins while samples of the one before are still awaited abandons that one: the model's choice, entry 40. -/
def scanStart (s : State) : State :=
  { s with
    scanner := { s.scanner with
      scanStamp := s.play.time, waiting := .all true, rested := s.released, countdown := Config.scanPeriod } }

/-- The channel that SEL0–SEL5 select: 6 µs each through channels 0 to 35, then channel 0 (R182). While RST_N is low and without
supply the bus stays at the channel where the scan stood: the model's choice, entry 28. -/
def Scanner.sel (sc : Scanner) : Nat :=
  let elapsed := Config.scanPeriod - sc.countdown
  if sc.countdown ≠ 0 ∧ elapsed < Config.selectSpan then elapsed / Config.selectMicros else 0

/-! ### Rows that name a scan by what it does besides (entry 24) -/

/-- The `n`th set of samples that no command carries: free values (entry 24). -/
def freeSamples (n : Nat) : Samples :=
  (Nine.all (Four.all ())).mapIdx fun j _ =>
    let sample (corner : Nat) : BitVec 12 := Config.freeSample (36 * n + channelNumber j corner)
    ⟨sample 0, sample 1, sample 2, sample 3⟩

/-- A station whose samples of the scan under way are not yet in completes it, by samples that are free values. -/
def scanFreely (i : StationId) (s : State) : State :=
  if s.scanner.waiting.get i then { completeScan i (freeSamples s.draws) s with draws := s.draws + 1 } else s

/-- The scan under way ends for every station whose samples are not yet in, in ascending order: the model's choice, entry 24. -/
def scanRest (s : State) : State := scanFreely 3 (scanFreely 2 (scanFreely 1 (scanFreely 0 s)))

/-- The scan under way ends as one that learns, at the learning phase (R132 step 4, R134). In any other phase no learning comes
about, and a station whose samples are in has learned. -/
def baselineLearn (s : State) : State := if s.scanner.learnPhase = Config.learnPhase then scanRest s else s

/-- The scan under way ends as one that ends its block, at block position 999 (R132 step 5, R136 to R139). At any other position
no block ends, and a station whose samples are in has ended it. The FAULT reports of the stations stand in ascending order of
station: the model's choice, entry 24. -/
def channelBlockEnd (s : State) : State := if s.scanner.blockPos = Config.blockEnd then scanRest s else s

/-! ### Requests -/

/-- SEED_BASELINE is executed (R141). -/
def ownSeedBaseline (station : Byte) : Owner := fun s =>
  match stationOf station with
  | none => (.refuse .badArg, s)
  | some i =>
    if (s.play.station i).inPlay then (.refuse .busy, s)
    else
      (.ok [], s.modScan i fun sc =>
        { sc with channels := sc.channels.map fun four => four.map fun c => { c with seedPending := true } })

/-- One channel in the reply of GET_SENSORS (R142). -/
def Channel.bytes (c : Channel) : List Byte :=
  leBytes 2 (c.raw + 32768 * c.faulty.toNat) ++ leBytes 2 c.b16 ++ leBytes 2 c.load

/-- The result of GET_SENSORS (R142). -/
def sensorBytes (station : Byte) (sc : ScanStation) : List Byte :=
  station :: leInt 4 sc.stamp ++ (sc.channels.toList.flatMap fun four => four.toList.flatMap Channel.bytes)
    ++ sc.loads.toList.flatMap (leBytes 2)

/-- GET_SENSORS is executed (R142). -/
def ownGetSensors (station : Byte) : Owner := fun s =>
  match stationOf station with
  | none => (.refuse .badArg, s)
  | some i => (.ok (sensorBytes station (s.scanner.stations.get i)), s)

/-- The fault latches of a station's channels, in channel order (R143). -/
def ScanStation.latches (sc : ScanStation) : List Bool :=
  sc.channels.toList.flatMap fun four => four.toList.map Channel.latch

/-- One station in the reply of GET_FAULTS (R143, R172). -/
def faultBytes (sc : ScanStation) (ps : PanelStation) : List Byte :=
  leBytes 5 (maskNat sc.latches) ++ leBytes 2 (maskNat (ps.panels.toList.map Panel.stuckLatch))

/-- Every channel latch clear (R143). -/
def ScanStation.clearLatches (sc : ScanStation) : ScanStation :=
  { sc with channels := sc.channels.map fun four => four.map fun c => { c with latch := false } }

/-- Every stuck latch clear (R143). -/
def PanelStation.clearLatches (ps : PanelStation) : PanelStation :=
  { ps with panels := ps.panels.map fun p => { p with stuckLatch := false } }

/-- GET_FAULTS is executed (R143). -/
def ownGetFaults : Owner := fun s =>
  (.ok (stationIds.flatMap fun i => faultBytes (s.scanner.stations.get i) (s.panels.get i)),
    { s with
      scanner := { s.scanner with stations := s.scanner.stations.map ScanStation.clearLatches }
      panels := s.panels.map PanelStation.clearLatches })

/-! ### Meanings -/

/-- SCAN_START (R131). -/
def execScanStart (s : State) : Host.Outcome State Fault Refusal := .next (whenLive scanStart s)

/-- SCAN_COMPLETE (R132). -/
def execScanComplete (i : StationId) (samples : Samples) (s : State) : Host.Outcome State Fault Refusal :=
  .next (whenLive (scanComplete i samples) s)

/-- BASELINE_LEARN (R134). -/
def execBaselineLearn (s : State) : Host.Outcome State Fault Refusal := .next (whenLive baselineLearn s)

/-- CHANNEL_BLOCK_END (R137). -/
def execChannelBlockEnd (s : State) : Host.Outcome State Fault Refusal := .next (whenLive channelBlockEnd s)

/-- SEED_BASELINE (R141). -/
def execSeedBaseline (tag station : Byte) (s : State) : Host.Outcome State Fault Refusal :=
  .next (whenLive (serve 0x16 tag (ownSeedBaseline station)) s)

/-- GET_SENSORS (R142). -/
def execGetSensors (tag station : Byte) (s : State) : Host.Outcome State Fault Refusal :=
  .next (whenLive (serve 0x33 tag (ownGetSensors station)) s)

/-- GET_FAULTS (R143). -/
def execGetFaults (tag : Byte) (s : State) : Host.Outcome State Fault Refusal :=
  .next (whenLive (serve 0x34 tag ownGetFaults) s)

end Sys2Proof.Machine
end

