-- ==== Sys2Proof/Machine/Lamps.lean ====
section
/-! DEFINITION. The lamp driver (chapter 9): SET_LAMPS (R164), the demands of the five modes (R165 to R167), the PWM period
(R163), and the lamp chain (R182). -/

namespace Sys2Proof.Machine

/-! ### Evaluation at a period start -/

/-- A BEAT lamp's demand (R167). -/
def beatLit (tl : Timeline) (period duty : Nat) (phase : Int) : Bool :=
  tl.state == .running && decide ((tl.t - phase) % (period : Int) < (period * duty / 4 : Nat))

/-- A lamp's demand (R165 to R167); `down` is the panel, or the synthetic lane of an autoplay station. -/
def Lamp.demand (tl : Timeline) (down : Bool) (l : Lamp) : Bool :=
  match l.mode with
  | .off => false
  | .steady _ => true
  | .follow _ => down
  | .flash _ _ _ remaining => remaining > 0
  | .beat _ period duty phase => beatLit tl period duty phase

/-- A mode's level; 0 where it has none. -/
def LampMode.level : LampMode → Nat
  | .off => 0
  | .steady v => v
  | .follow v => v
  | .flash v _ _ _ => v
  | .beat v _ _ _ => v

/-- The on-time of a demand at a level (R163). -/
def onTimeOf (lit : Bool) (level : Nat) : Nat := if lit then 1000 * level / 15 else 0

/-- A lamp evaluated at a period start (R163). -/
def Lamp.evaluate (tl : Timeline) (down : Bool) (l : Lamp) : Lamp :=
  { l with lit := l.demand tl down, onTime := onTimeOf (l.demand tl down) l.mode.level }

/-- A station's lamps evaluated (R163, R165). -/
def evaluateRow (tl : Timeline) (st : Station) (down : Nine Bool) (row : Nine Lamp) : Nine Lamp :=
  row.mapIdx fun j l => l.evaluate tl (st.laneDown down j)

/-- Every lamp evaluated (R163). -/
def evaluateLamps (p : Play) (downs : Four (Nine Bool)) : Four (Nine Lamp) :=
  { v0 := evaluateRow p.timeline p.stations.v0 downs.v0 p.lamps.v0
    v1 := evaluateRow p.timeline p.stations.v1 downs.v1 p.lamps.v1
    v2 := evaluateRow p.timeline p.stations.v2 downs.v2 p.lamps.v2
    v3 := evaluateRow p.timeline p.stations.v3 downs.v3 p.lamps.v3 }

/-- A PWM period starts: every lamp is evaluated, and the on-times go out on the lamp chain, 360 bits (R163, R182). -/
def pwmPeriodStart (s : State) : State :=
  let lamps := evaluateLamps s.play s.downs
  { s with
    play := { s.play with lamps := lamps, periodBegun := true }
    drive := { s.drive with
      countdown := Config.pwmPeriod
      chain := lamps.map fun row => row.map Lamp.onTime
      shiftLeft := Config.chainBits * Config.lclkPeriod } }

/-- LLAT rises for 1 µs: the station boards latch the values of the chain (R182). -/
def lampChainLatch (s : State) : State :=
  { s with drive := { s.drive with latched := s.drive.chain, latchLeft := Config.crystalPerMicro } }

/-- Ten bits of a value, the most significant first (R182). -/
def tenBits (n : Nat) : List Bool :=
  [9, 8, 7, 6, 5, 4, 3, 2, 1, 0].map fun b => n.testBit b

/-- The bits on LDAT in a period, in the order they are shifted: station 0 panel 0 first (R182). -/
def LampDrive.ldat (d : LampDrive) : List Bool :=
  d.chain.toList.flatMap fun row => row.toList.flatMap tenBits

/-- The bit on LDAT, and whether LCLK is in the high half of the bit (R182; entry 28). -/
def LampDrive.bit (d : LampDrive) : Bool × Bool :=
  let past := Config.chainBits * Config.lclkPeriod - d.shiftLeft
  if d.shiftLeft = 0 then (false, false)
  else (d.ldat.getD (past / Config.lclkPeriod) false, decide (Config.lclkPeriod ≤ 2 * (past % Config.lclkPeriod)))

/-- The level of LDAT; held low while RST_N is low (R182). -/
def State.pinLdat (s : State) : Bool := s.live && s.drive.bit.1

/-- The level of LCLK; held low while RST_N is low (R182). -/
def State.pinLclk (s : State) : Bool := s.live && s.drive.bit.2

/-- The level of LLAT: high for 1 µs from the latch; held low while RST_N is low (R182). -/
def State.pinLlat (s : State) : Bool := s.live && decide (s.drive.latchLeft ≠ 0)

/-- A crystal period passes on the lamp chain. -/
def LampDrive.tick (d : LampDrive) : LampDrive :=
  { d with shiftLeft := d.shiftLeft - 1, latchLeft := d.latchLeft - 1 }

/-! ### Flash remaining (R166) -/

/-- A FLASH lamp's remaining time set by a function. -/
def Lamp.modFlash (f : Nat → Nat) (l : Lamp) : Lamp :=
  match l.mode with
  | .flash v d set remaining => { l with mode := .flash v d set (f remaining) }
  | _ => l

/-- The lamps of one station changed. -/
def Play.modLamps (p : Play) (i : StationId) (f : PanelId → Lamp → Lamp) : Play :=
  { p with lamps := p.lamps.modify i fun row => row.mapIdx f }

/-- A lamp's flash remaining has counted down to 0 (R166). -/
def flashEnd (i : StationId) (j : PanelId) (s : State) : State :=
  s.modPlay fun p => { p with lamps := p.lamps.modify i fun row => row.modify j (Lamp.modFlash fun _ => 0) }

/-- Every flash remaining falls by a crystal period (R166). -/
def Play.flashTick (p : Play) : Play :=
  { p with lamps := p.lamps.map fun row => row.map (Lamp.modFlash fun n => n - 1) }

/-! ### SET_LAMPS (R164) -/

/-- The named lamps of each of the stations given take a mode. -/
def Play.setLamps (p : Play) (set : LaneSet) (mode : LampMode) : List StationId → Play
  | [] => p
  | i :: is =>
    (p.modLamps i fun j l => if LaneSet.has set j then { l with mode := mode } else l).setLamps set mode is

/-- A mode's level as sent: absent in OFF (R177). -/
def LampMode.levelBytes : LampMode → List Byte
  | .off => optional 1 none
  | m => optional 1 (some m.level)

/-- A mode's settings as sent, each with its presence flag (R172; entry 14). -/
def LampMode.settingBytes : LampMode → List Byte
  | .flash _ d set _ =>
    optional 2 (some d) ++ optional 2 (some set.toNat) ++ optional 4 none ++ optional 1 none ++ optionalTime none
  | .beat _ period duty phase =>
    optional 2 none ++ optional 2 none ++ optional 4 (some period) ++ optional 1 (some duty) ++ optionalTime (some phase)
  | _ => optional 2 none ++ optional 2 none ++ optional 4 none ++ optional 1 none ++ optionalTime none

/-- A mode's flash remaining as sent, in local µs, at most the duration (R177). -/
def LampMode.remainingBytes : LampMode → List Byte
  | .flash _ d _ remaining =>
    optional 4 (some (min (d * 1000) ((remaining + (Config.crystalPerMicro - 1)) / Config.crystalPerMicro)))
  | _ => optional 4 none

/-- SET_LAMPS is executed (R164). With an empty panel set the reply's mode and values are those of the request after clamping,
stored on no lamp: the model's choice, entry 42. -/
def ownSetLamps (f : LampFields) : Owner := fun s =>
  match selected f.selector, lampMode f with
  | some named, some mode =>
    (.okClamped (lampClamped f mode) (codeByte mode.code :: mode.levelBytes ++ mode.settingBytes),
      s.modPlay fun p => p.setLamps (laneField f.panels) mode named)
  | _, _ => (.refuse .badArg, s)

/-! ### Meanings -/

/-- SET_LAMPS (R164). -/
def execSetLamps (tag : Byte) (f : LampFields) (s : State) : Host.Outcome State Fault Refusal :=
  .next (whenLive (serve 0x08 tag (ownSetLamps f)) s)

/-- FLASH_END (R166). -/
def execFlashEnd (i : StationId) (j : PanelId) (s : State) : Host.Outcome State Fault Refusal :=
  .next (whenLive (flashEnd i j) s)

/-- PWM_PERIOD_START (R163). -/
def execPwmPeriodStart (s : State) : Host.Outcome State Fault Refusal := .next (whenLive pwmPeriodStart s)

/-- LAMP_CHAIN_LATCH (R182). -/
def execLampChainLatch (s : State) : Host.Outcome State Fault Refusal := .next (whenLive lampChainLatch s)

end Sys2Proof.Machine
end

