-- ==== Sys2Proof/Machine/Status.lean ====
section
/-! DEFINITION. The requests that read: GET_STATUS (R177), GET_TALLY (R107), GET_RESULT (R108) and GET_LINK_COUNTS (R178). Fields
stand in the order their rules list them, in the sizes of R172. -/

namespace Sys2Proof.Machine

/-! ### GET_STATUS (R177) -/

/-- The timeline's items (R110). -/
def Timeline.bytes (tl : Timeline) : List Byte :=
  codeByte tl.state.code :: leInt 4 tl.t ++ leBytes 4 tl.r ++ optionalTime tl.pendingStart ++ [codeByte tl.source.code]
    ++ leBytes 2 tl.edgeRun ++ [codeByte tl.lock.code, codeByte tl.badAnchors] ++ leBytes 4 tl.rate
    ++ leBytes 4 tl.tolerance

/-- The transmitter's code (R177). -/
def TxState.code : TxState → Nat
  | .idle => 0
  | .sending _ _ => 1

/-- Section 0, part. -/
def partSection (s : State) : List Byte :=
  s.play.timeline.bytes ++ leBytes 4 s.play.grace ++ leBytes 4 s.play.rollGap ++ scoringBytes s.play.scoring
    ++ [codeByte s.link.replies.length, codeByte s.play.reports.records.length, codeByte s.link.tx.code,
      codeByte s.link.replyRun]

/-- The note queue's items (R39). -/
def Feed.bytes (f : Feed) : List Byte :=
  [codeByte f.queue.length, codeByte f.free] ++ f.horizon.bytes ++ optionalTime f.tailTime
    ++ [flagByte f.chartComplete] ++ optionalTime f.songEnd ++ [flagByte f.starved]

/-- The lanes that hold an entry (R91). -/
def Station.holdLanes (st : Station) : Nat := maskNat (st.holds.toList.map Option.isSome)

/-- Section 1, station. The autoplay and fail-enable flags are one byte each, 0 without a lane mask, and take no presence flag,
and the outcome of a station that is not FINISHED is a clear presence flag with field 0: the model's reading, entry 14. -/
def stationSection (s : State) (i : StationId) : List Byte :=
  let st := s.play.station i
  let ps := s.panels.get i
  codeByte st.state.code :: optional 1 (st.outcome.map SongOutcome.code) ++ optional 2 (st.laneMask.map BitVec.toNat)
    ++ [flagByte st.autoplay, flagByte st.failEnable] ++ st.feed.bytes ++ st.judge.bytes
    ++ [codeByte st.holdCount] ++ leBytes 2 st.holdLanes ++ [flagByte ps.occupied] ++ leBytes 4 ps.occupancyTimer
    ++ [flagByte ps.armed] ++ leBytes 2 ps.occupancyAge ++ laneBytes ps.comboLanes
    ++ [codeByte ps.comboHold, flagByte ps.comboAbort, flagByte ps.comboSpent] ++ leBytes 4 ps.comboTimer
    ++ [flagByte (s.play.reports.pressEnables.get i)]

/-- A panel state's run count, or exit count (R145). -/
def PanelState.count : PanelState → Option Nat
  | .pressing _ n => some n
  | .releasing _ n => some n
  | .stuck n => some n
  | _ => none

/-- A panel state's run stamp (R145). -/
def PanelState.stamp : PanelState → Option Int
  | .pressing t _ => some t
  | .releasing t _ => some t
  | _ => none

/-- One panel of section 2. -/
def Panel.bytes (p : Panel) : List Byte :=
  codeByte p.state.code :: optional 1 p.state.count ++ optionalTime p.state.stamp ++ leBytes 4 p.stuckTimer
    ++ [flagByte p.stuckLatch] ++ leBytes 2 p.config.tOn ++ leBytes 2 p.config.tOff
    ++ [codeByte p.config.dOn, codeByte p.config.dOff, codeByte p.config.stuckTime]

/-- One lamp of section 3. -/
def Lamp.bytes (l : Lamp) : List Byte :=
  codeByte l.mode.code :: l.mode.levelBytes ++ [flagByte l.lit] ++ l.mode.settingBytes ++ l.mode.remainingBytes

/-- GET_STATUS is executed (R177; entry 15). -/
def ownGetStatus (sect station : Byte) : Owner := fun s =>
  match sect.toNat, stationOf station with
  | 0, _ => (.ok (sect :: station :: partSection s), s)
  | 1, some i => (.ok (sect :: station :: stationSection s i), s)
  | 2, some i => (.ok (sect :: station :: (s.panels.get i).panels.toList.flatMap Panel.bytes), s)
  | 3, some i => (.ok (sect :: station :: (s.play.lamps.get i).toList.flatMap Lamp.bytes), s)
  | _, _ => (.refuse .badArg, s)

/-! ### The tally (R107, R108) -/

/-- The present tally (R107). -/
def Tally.bytes (t : Tally) : List Byte :=
  t.counts.toList.flatMap (leBytes 2) ++ leBytes 2 t.voids ++ leBytes 2 t.strays ++ leBytes 2 t.discarded
    ++ leBytes 4 t.points ++ leBytes 4 t.units ++ leBytes 2 t.combo ++ leBytes 2 t.maxCombo ++ leBytes 2 t.life
    ++ leBytes 4 t.score ++ [flagByte t.overUnits]

/-- GET_TALLY is executed (R107). -/
def ownGetTally (station : Byte) : Owner := fun s =>
  match stationOf station with
  | none => (.refuse .badArg, s)
  | some i => (.ok (s.play.station i).tally.bytes, s)

/-- GET_RESULT is executed (R108): the record of a FINISHED station. -/
def ownGetResult (station : Byte) : Owner := fun s =>
  match stationOf station with
  | none => (.refuse .badArg, s)
  | some i =>
    match (s.play.station i).state, (s.play.station i).tally.record with
    | .finished, some record => (.ok (record.bytes i), s)
    | _, _ => (.refuse .busy, s)

/-! ### The link counters (R178) -/

/-- GET_LINK_COUNTS is executed: the six counters, then all at 0 (R178). -/
def ownGetLinkCounts : Owner := fun s =>
  let l := s.link
  (.ok ([l.accepted, l.crcErrors, l.lengthErrors, l.gapTimeouts, l.overruns, s.play.reports.reportsLost].flatMap
      (leBytes 2)),
    (s.modLink fun l =>
      { l with accepted := 0, crcErrors := 0, lengthErrors := 0, gapTimeouts := 0, overruns := 0 }).modPlay fun p =>
        { p with reports := { p.reports with reportsLost := 0 } })

/-! ### Meanings -/

/-- GET_STATUS (R177). -/
def execGetStatus (tag sect station : Byte) (s : State) : Host.Outcome State Fault Refusal :=
  .next (whenLive (serve 0x30 tag (ownGetStatus sect station)) s)

/-- GET_TALLY (R107). -/
def execGetTally (tag station : Byte) (s : State) : Host.Outcome State Fault Refusal :=
  .next (whenLive (serve 0x31 tag (ownGetTally station)) s)

/-- GET_RESULT (R108). -/
def execGetResult (tag station : Byte) (s : State) : Host.Outcome State Fault Refusal :=
  .next (whenLive (serve 0x32 tag (ownGetResult station)) s)

/-- GET_LINK_COUNTS (R178). -/
def execGetLinkCounts (tag : Byte) (s : State) : Host.Outcome State Fault Refusal :=
  .next (whenLive (serve 0x35 tag ownGetLinkCounts) s)

end Sys2Proof.Machine
end

