-- ==== Sys2Proof/Machine/Resets.lean ====
section
/-! DEFINITION. The three resets (R179, R180) and the loss of power (R174): POWER_ON, PIN_RESET_ASSERT, PIN_RESET_RELEASE,
POWER_LOSS and RESET_PLAY. -/

namespace Sys2Proof.Machine

/-- Every block at its power-on values, with the cause that READY carries (R179). The waiting commands, the supply, the pin
and the values the station boards hold are not the part's to reset (entry 18). -/
def State.restart (cause : ResetCause) (s : State) : State :=
  { s with
    localTime := 0
    play := .reset cause
    scanner := .reset
    panels := .all .reset
    drive := .reset s.drive.latched
    link := .reset }

/-- Power comes up (R179; entry 7). Taken while the supply is already on, POWER_ON stands for the supply lost and back: every
block restarts with cause POWER (the model's choice, entry 43). -/
def powerOn (s : State) : State := ({ s with powered := true }).restart .power

/-- The link port stops: the frame being sent is cut off, and the frame being received is lost (R179). -/
def Link.stop (l : Link) : Link := { l with tx := .idle, rx := .hunting, gapTimer := 0 }

/-- RST_N falls (R179). -/
def pinResetAssert (s : State) : State := ({ s with rstN := false }).modLink Link.stop

/-- RST_N returns high: a part with its supply takes its power-on values (R179; entry 8). -/
def pinResetRelease (s : State) : State :=
  if s.rstN then s
  else if s.powered then ({ s with rstN := true }).restart .pin
  else { s with rstN := true }

/-- Power is lost: the part stops, and the frame being sent is cut off (R174). -/
def powerLoss (s : State) : State := ({ s with powered := false }).modLink Link.stop

/-! ### RESET_PLAY (R180) -/

/-- The timeline after RESET_PLAY: the source monitor and the settings are kept (R129). -/
def Timeline.resetPlay (tl : Timeline) : Timeline :=
  { tl with state := .stopped, t := 0, r := 0, pendingStart := none, lock := .free, badAnchors := 0 }

/-- The report queue after RESET_PLAY: emptied, then READY with cause COMMAND (R188). -/
def ReportQueue.resetPlay (q : ReportQueue) : ReportQueue :=
  { q with records := [{ stamp := 0, body := .ready .command }] }

/-- The play blocks after RESET_PLAY (R20, R168, R180). -/
def Play.resetPlay (p : Play) : Play :=
  { p with
    timeline := p.timeline.resetPlay
    stations := p.stations.map fun st => .idle st.judge
    lamps := p.lamps.map fun row => row.map fun l => { l with mode := .off }
    reports := p.reports.resetPlay }

/-- A station's panel unit after RESET_PLAY (R162). -/
def PanelStation.resetPlay (ps : PanelStation) : PanelStation :=
  { ps with occupied := false, occupancyTimer := 0, armed := false }

/-- RESET_PLAY's work: the play state, the move of T to 0 handed to the panel unit, and presence (R180). -/
def resetPlay (s : State) : State :=
  let s := s.moved s.play.resetPlay (0 - s.play.time)
  { s with panels := s.panels.map PanelStation.resetPlay }

/-- RESET_PLAY is executed (R180). -/
def ownResetPlay : Owner := fun s => (.ok [], resetPlay s)

/-! ### Meanings -/

/-- POWER_ON (R179). -/
def execPowerOn (s : State) : Host.Outcome State Fault Refusal := .next (powerOn s)

/-- PIN_RESET_ASSERT (R179). -/
def execPinResetAssert (s : State) : Host.Outcome State Fault Refusal := .next (pinResetAssert s)

/-- PIN_RESET_RELEASE (R179). -/
def execPinResetRelease (s : State) : Host.Outcome State Fault Refusal := .next (pinResetRelease s)

/-- POWER_LOSS (R174). -/
def execPowerLoss (s : State) : Host.Outcome State Fault Refusal := .next (powerLoss s)

/-- RESET_PLAY (R180). -/
def execResetPlay (tag : Byte) (s : State) : Host.Outcome State Fault Refusal :=
  .next (whenLive (serve 0x3F tag ownResetPlay) s)

end Sys2Proof.Machine
end

