-- ==== Sys2Proof/Machine/Line.lean ====
section
/-! DEFINITION. The serial line (chapter 10): the receiver (R170), the taking of a frame (R171, R175), and the transmitter
(R174, R185). -/

namespace Sys2Proof.Machine

/-! ### The request catalogue (R175) -/

/-- The requests of the catalogue (R175). -/
inductive Request where
  | configTiming | configJudge | configHolds | configScoring | configPanels | configCombo
  | configReports | setLamps | loadStation | noteBlock | chartEnd | abortSong
  | clearStation | armPresence | seedBaseline | startSong | stopSong | anchor
  | getStatus | getTally | getResult | getSensors | getFaults | getLinkCounts
  | resetPlay
deriving DecidableEq, Repr

/-- One row of the catalogue: the kind, the request, and the payload lengths it is admitted with (R175). -/
structure CatalogueRow where
  kind : Nat
  request : Request
  least : Nat
  most : Nat
deriving DecidableEq, Repr

/-- The request catalogue (R175). -/
def catalogue : List CatalogueRow :=
  [ ⟨0x01, .configTiming, 8, 8⟩,
    ⟨0x02, .configJudge, 29, 29⟩,
    ⟨0x03, .configHolds, 8, 8⟩,
    ⟨0x04, .configScoring, 40, 40⟩,
    ⟨0x05, .configPanels, 12, 12⟩,
    ⟨0x06, .configCombo, 5, 5⟩,
    ⟨0x07, .configReports, 1, 1⟩,
    ⟨0x08, .setLamps, 18, 18⟩,
    ⟨0x10, .loadStation, 10, 10⟩,
    ⟨0x11, .noteBlock, 15, 214⟩,
    ⟨0x12, .chartEnd, 5, 5⟩,
    ⟨0x13, .abortSong, 1, 1⟩,
    ⟨0x14, .clearStation, 1, 1⟩,
    ⟨0x15, .armPresence, 1, 1⟩,
    ⟨0x16, .seedBaseline, 1, 1⟩,
    ⟨0x20, .startSong, 4, 4⟩,
    ⟨0x21, .stopSong, 0, 0⟩,
    ⟨0x22, .anchor, 4, 4⟩,
    ⟨0x30, .getStatus, 2, 2⟩,
    ⟨0x31, .getTally, 1, 1⟩,
    ⟨0x32, .getResult, 1, 1⟩,
    ⟨0x33, .getSensors, 1, 1⟩,
    ⟨0x34, .getFaults, 0, 0⟩,
    ⟨0x35, .getLinkCounts, 0, 0⟩,
    ⟨0x3F, .resetPlay, 0, 0⟩ ]

/-- The catalogue's row for a kind; none for a kind that is no request (R171). -/
def catalogueRow (kind : Byte) : Option CatalogueRow := catalogue.find? fun r => r.kind == kind.toNat

/-- CONFIG_JUDGE's settings in a payload (R42, R175). -/
def readJudge (b : List Byte) : JudgeFields :=
  { w1 := field32 b 1, w2 := field32 b 5, w3 := field32 b 9, w4 := field32 b 13, w5 := field32 b 17,
    wm := field32 b 21, offset := field32 b 25 }

/-- One row of CONFIG_SCORING's payload (R96). -/
def readScore (b : List Byte) (k : Nat) : ScoreField :=
  { points := field16 b (4 * k), life := field16 b (4 * k + 2) }

/-- CONFIG_SCORING's payload (R96). -/
def readScoring (b : List Byte) : PerResult ScoreField :=
  ⟨readScore b 0, readScore b 1, readScore b 2, readScore b 3, readScore b 4, readScore b 5, readScore b 6,
    readScore b 7, readScore b 8, readScore b 9⟩

/-- CONFIG_PANELS's payload (R156, R175). -/
def readPanels (b : List Byte) : PanelFields :=
  { selector := field8 b 0, panels := field16 b 1, tOn := field16 b 3, tOff := field16 b 5, dOn := field8 b 7,
    dOff := field8 b 8, stuckTime := field8 b 9, occupancyAge := field16 b 10 }

/-- CONFIG_COMBO's payload (R160, R175). -/
def readCombo (b : List Byte) : ComboFields :=
  { selector := field8 b 0, lanes := field16 b 1, holdTime := field8 b 3, flags := field8 b 4 }

/-- SET_LAMPS's payload (R164). -/
def readLamps (b : List Byte) : LampFields :=
  { selector := field8 b 0, panels := field16 b 1, mode := field8 b 3, level := field8 b 4, duration := field16 b 5,
    results := field16 b 7, period := field32 b 9, duty := field8 b 13, phase := field32 b 14 }

/-- LOAD_STATION's payload (R1, R175). -/
def readLoad (b : List Byte) : LoadFields :=
  { station := field8 b 0, mask := field16 b 1, units := field32 b 3, startLife := field16 b 7, flags := field8 b 9 }

/-- The owner of an admitted request, on its payload (R175). -/
def ownerOf (r : Request) (b : List Byte) : Owner :=
  match r with
  | .configTiming => ownConfigTiming (field32 b 0) (field32 b 4)
  | .configJudge => ownConfigJudge (field8 b 0) (readJudge b)
  | .configHolds => ownConfigHolds (field32 b 0) (field32 b 4)
  | .configScoring => ownConfigScoring (readScoring b)
  | .configPanels => ownConfigPanels (readPanels b)
  | .configCombo => ownConfigCombo (readCombo b)
  | .configReports => ownConfigReports (field8 b 0)
  | .setLamps => ownSetLamps (readLamps b)
  | .loadStation => ownLoadStation (readLoad b)
  | .noteBlock => ownNoteBlock b
  | .chartEnd => ownChartEnd (field8 b 0) (field32 b 1)
  | .abortSong => ownAbortSong (field8 b 0)
  | .clearStation => ownClearStation (field8 b 0)
  | .armPresence => ownArmPresence (field8 b 0)
  | .seedBaseline => ownSeedBaseline (field8 b 0)
  | .startSong => ownStartSong (field32 b 0)
  | .stopSong => ownStopSong
  | .anchor => ownAnchor (field32 b 0)
  | .getStatus => ownGetStatus (field8 b 0) (field8 b 1)
  | .getTally => ownGetTally (field8 b 0)
  | .getResult => ownGetResult (field8 b 0)
  | .getSensors => ownGetSensors (field8 b 0)
  | .getFaults => ownGetFaults
  | .getLinkCounts => ownGetLinkCounts
  | .resetPlay => ownResetPlay

/-- A BAD_LENGTH answer of the link port; NOTE_BLOCK's carries the fields of R29 (R171, R172). -/
def badLengthAnswer (r : Request) : Answer :=
  if r = .noteBlock then blockUnknown .badLength else .refuse .badLength

/-- Steps 3 to 5 of the taking of a frame (R171). -/
def frameOwner (kind : Byte) (payload : List Byte) : Owner := fun s =>
  match catalogueRow kind with
  | none => (.refuse .unknown, s)
  | some row =>
    if row.least ≤ payload.length ∧ payload.length ≤ row.most then ownerOf row.request payload s
    else (badLengthAnswer row.request, s.lengthError)

/-! ### The receiver (R170) -/

/-- The frame's bytes after SYNC are all in: LENGTH, KIND, TAG, the payload and the two check bytes (R169, R170). -/
def frameComplete (bytes : List Byte) : Bool :=
  match bytes with
  | [] => false
  | len :: rest => rest.length ≥ len.toNat + 4

/-- A complete frame is checked: a bad check drops it, a good one has it taken (R170, R171). -/
def takeFrame (bytes : List Byte) (s : State) : State :=
  let n := field bytes 0 1
  let body := bytes.take (n + 3)
  if bytes.drop (n + 3) = crcBytes body then
    serve (field8 bytes 1) (field8 bytes 2) (frameOwner (field8 bytes 1) (body.drop 3)) s
  else s.modLink fun l => { l with crcErrors := satAdd l.crcErrors 1 }

/-- The receiver returns to HUNTING. -/
def Link.hunt (l : Link) : Link := { l with rx := .hunting, gapTimer := 0 }

/-- A byte arrives (R170; entry 16). -/
def rxByte (b : Byte) (s : State) : State :=
  match s.link.rx with
  | .hunting =>
    if b = Config.sync then s.modLink fun l => { l with rx := .inFrame [], gapTimer := 0 } else s
  | .inFrame [] =>
    if b.toNat ≤ Config.payloadMax then s.modLink fun l => { l with rx := .inFrame [b] }
    else (s.modLink Link.hunt).lengthError
  | .inFrame (len :: rest) =>
    let bytes := len :: rest ++ [b]
    if frameComplete bytes then takeFrame bytes (s.modLink Link.hunt)
    else s.modLink fun l => { l with rx := .inFrame bytes, gapTimer := 0 }

/-- The gap timer passes its limit inside a frame (R170). -/
def gapTimeout (s : State) : State :=
  match s.link.rx with
  | .hunting => s
  | .inFrame _ => s.modLink fun l => { l.hunt with gapTimeouts := satAdd l.gapTimeouts 1 }

/-! ### The transmitter (R174) -/

/-- The crystal periods a frame lasts on the line (R169, R170). -/
def framePeriods (bytes : List Byte) : Nat := Config.bitTime * Config.byteBits * bytes.length

/-- The transmitter begins a frame; its SYNC waits out the idle bit time that the frame before it still asks for (R174). -/
def Link.send (l : Link) (bytes : List Byte) : Link :=
  { l with tx := .sending bytes (framePeriods bytes + l.rest), rest := 0 }

/-- The oldest reply begins; its place in the queue is freed (R173, R174). -/
def beginReply (r : Reply) (rest : List Reply) (run : Nat) (s : State) : State :=
  s.modLink fun l =>
    { l.send (frame Config.replyKind r.tag r.payload) with replies := rest, replyRun := run }

/-- The oldest report begins, with the pending lost count in its TAG, which returns to 0 (R174, R185). -/
def beginReport (r : Report) (rest : List Report) (s : State) : State :=
  let q := s.play.reports
  (s.modLink fun l => { l.send (frame r.body.kind (codeByte q.pendingLost) r.payload) with replyRun := 0 }).modPlay
    fun p => { p with reports := { q with records := rest, pendingLost := 0 } }

/-- The transmitter's choice between reply queue and report queue (R174). -/
def chooseFrame (s : State) : State :=
  match s.link.replies, s.play.reports.records with
  | r :: rs, [] => beginReply r rs 0 s
  | r :: rs, q :: qs => if s.link.replyRun < Config.replyRunMax then beginReply r rs (s.link.replyRun + 1) s
      else beginReport q qs s
  | [], q :: qs => beginReport q qs s
  | [], [] => s.modLink fun l => { l with tx := .idle }

/-- An IDLE transmitter with a frame waiting begins one (R174). -/
def txFrameBegin (s : State) : State :=
  match s.link.tx with
  | .idle => chooseFrame s
  | .sending _ _ => s

/-- The frame being sent ends, the line asks for a bit time of idle, and the next frame is chosen (R174; entry 34). -/
def txFrameEnd (s : State) : State :=
  match s.link.tx with
  | .idle => s
  | .sending _ _ => chooseFrame (s.modLink fun l => { l with rest := Config.bitTime })

/-- The level of bit `k` of a byte on the line: a start bit, eight data bits with the least significant first, a stop bit
(R170; entry 28). -/
def byteBit (b : Byte) (k : Nat) : Bool := if k = 0 then false else if k ≤ 8 then b.getLsbD (k - 1) else true

/-- The level of TXD: idle high between frames and in reset (R174, R179). -/
def State.pinTxd (s : State) : Bool :=
  match s.link.tx with
  | .idle => true
  | .sending bytes left =>
    if !s.live || framePeriods bytes < left then true
    else
      let bit := (framePeriods bytes - left) / Config.bitTime
      byteBit (bytes.getD (bit / Config.byteBits) 0xFF) (bit % Config.byteBits)

/-! ### Meanings -/

/-- RX_BYTE (R170). -/
def execRxByte (b : Byte) (s : State) : Host.Outcome State Fault Refusal := .next (whenLive (rxByte b) s)

/-- GAP_TIMEOUT (R170). -/
def execGapTimeout (s : State) : Host.Outcome State Fault Refusal := .next (whenLive gapTimeout s)

/-- TX_FRAME_BEGIN (R174). -/
def execTxFrameBegin (s : State) : Host.Outcome State Fault Refusal := .next (whenLive txFrameBegin s)

/-- TX_FRAME_END (R174). -/
def execTxFrameEnd (s : State) : Host.Outcome State Fault Refusal := .next (whenLive txFrameEnd s)

end Sys2Proof.Machine
end

