-- ==== Sys2Proof/Machine/Clock.lean ====
section
/-! DEFINITION. The crystal: what one period of it does when no command waits (00_scope.md, "Two clocks"; entry 3). Twelve
periods are one local microsecond. The scan period (R130), the PWM period (R163), the lamp latch (R182) and HOLDOVER (R115) go
by the microsecond. What an event inside a microsecond may start is counted by the crystal period: the loss timer (R115), the
gap timer (R170), the flash remaining (R166), the line's bit times (R170, R174) and the lamp chain's bits (R182). -/

namespace Sys2Proof.Machine

/-! ### What begins at a microsecond -/

/-- A scan begins when its period is over (R130). -/
def scanIfDue (s : State) : State := if s.scanner.countdown = 0 then scanStart s else s

/-- A PWM period begins when the one before it is over (R163). -/
def pwmIfDue (s : State) : State := if s.drive.countdown = 0 then pwmPeriodStart s else s

/-- LLAT pulses 100 µs after the period start (R182). -/
def latchIfDue (s : State) : State :=
  if s.drive.countdown + Config.latchDelay = Config.pwmPeriod then lampChainLatch s else s

/-- The events of local time that a microsecond begins with, in the model's order (entry 3). -/
def beginMicro (s : State) : State := latchIfDue (pwmIfDue (scanIfDue s))

/-! ### What a crystal period that has passed moves on -/

/-- The local time rises by one crystal period; the flash counts, the lamp chain and the idle line go on with it (R166, R174,
R182). -/
def State.nextPeriod (s : State) : State :=
  { s with
    localTime := s.localTime + 1
    play := { s.play.flashTick with periodBegun := false }
    drive := s.drive.tick
    link := { s.link with rest := s.link.rest - 1 } }

/-- The loss timer of EXTERNAL rises by a crystal period and may expire (R115). -/
def lossTick (s : State) : State :=
  match s.play.timeline.source with
  | .holdover => s
  | .external =>
    if s.play.timeline.lossTimer + 1 ≥ Config.lossLimit then lossTimerExpiry s
    else s.modPlay fun p => p.modTimeline fun tl => { tl with lossTimer := tl.lossTimer + 1 }

/-- The gap timer rises by a crystal period inside a frame and may pass its limit (R170). -/
def gapTick (s : State) : State :=
  match s.link.rx with
  | .hunting => s
  | .inFrame _ =>
    if s.link.gapTimer + 1 > Config.gapLimit then gapTimeout s
    else s.modLink fun l => { l with gapTimer := l.gapTimer + 1 }

/-- The frame being sent goes on for a crystal period and may end (R174). -/
def sendTick (s : State) : State :=
  match s.link.tx with
  | .idle => s
  | .sending frame left =>
    if left ≤ 1 then txFrameEnd s else s.modLink fun l => { l with tx := .sending frame (left - 1) }

/-! ### What a microsecond that has passed moves on -/

/-- The scan period and the PWM period run on (R130, R163). -/
def periodMicro (s : State) : State :=
  { s with
    scanner := { s.scanner with countdown := s.scanner.countdown - 1 }
    drive := { s.drive with countdown := s.drive.countdown - 1 } }

/-- One local microsecond has passed (R115, R130, R163). -/
def endMicro (s : State) : State := periodMicro (holdoverTick s)

/-! ### One crystal period -/

/-- A part of the clock's work that is done on the twelfth of the crystal periods alone, where a local microsecond meets the
next. -/
def onMicro (f : State → State) (s : State) : State := if s.localTime % Config.crystalPerMicro = 0 then f s else s

/-- One crystal period of a part that runs, in the model's order (entry 3). -/
def crystalPeriod (s : State) : State :=
  sendTick (gapTick (lossTick (onMicro endMicro (onMicro beginMicro (txFrameBegin s)).nextPeriod)))

/-- What a step does when no command waits: one crystal period; nothing without supply or in reset (R179; entries 3, 6). -/
def idle (s : State) : State := whenLive crystalPeriod s

end Sys2Proof.Machine
end

