-- ==== Sys2Proof/Machine/Dispatch.lean ====
section
/-! DEFINITION. The meaning of every command: one arm for each row of spec/opcode_table.json. -/

namespace Sys2Proof.Machine

def exec (i : Instr) (s : State) : Host.Outcome State Fault Refusal :=
  match i with
  | .powerOn => Sys2Proof.Machine.execPowerOn s
  | .pinResetAssert => Sys2Proof.Machine.execPinResetAssert s
  | .pinResetRelease => Sys2Proof.Machine.execPinResetRelease s
  | .rxByte b => Sys2Proof.Machine.execRxByte b s
  | .gapTimeout => Sys2Proof.Machine.execGapTimeout s
  | .configTiming tag rate tolerance => Sys2Proof.Machine.execConfigTiming tag rate tolerance s
  | .configJudge tag selector fields => Sys2Proof.Machine.execConfigJudge tag selector fields s
  | .configHolds tag grace rollGap => Sys2Proof.Machine.execConfigHolds tag grace rollGap s
  | .configScoring tag rows => Sys2Proof.Machine.execConfigScoring tag rows s
  | .configPanels tag fields => Sys2Proof.Machine.execConfigPanels tag fields s
  | .configCombo tag fields => Sys2Proof.Machine.execConfigCombo tag fields s
  | .configReports tag stations => Sys2Proof.Machine.execConfigReports tag stations s
  | .setLamps tag fields => Sys2Proof.Machine.execSetLamps tag fields s
  | .loadStation tag fields => Sys2Proof.Machine.execLoadStation tag fields s
  | .noteBlock tag payload => Sys2Proof.Machine.execNoteBlock tag payload s
  | .chartEnd tag station endTime => Sys2Proof.Machine.execChartEnd tag station endTime s
  | .abortSong tag stations => Sys2Proof.Machine.execAbortSong tag stations s
  | .clearStation tag station => Sys2Proof.Machine.execClearStation tag station s
  | .armPresence tag station => Sys2Proof.Machine.execArmPresence tag station s
  | .seedBaseline tag station => Sys2Proof.Machine.execSeedBaseline tag station s
  | .startSong tag start => Sys2Proof.Machine.execStartSong tag start s
  | .stopSong tag => Sys2Proof.Machine.execStopSong tag s
  | .anchor tag time => Sys2Proof.Machine.execAnchor tag time s
  | .getStatus tag sect station => Sys2Proof.Machine.execGetStatus tag sect station s
  | .getTally tag station => Sys2Proof.Machine.execGetTally tag station s
  | .getResult tag station => Sys2Proof.Machine.execGetResult tag station s
  | .getSensors tag station => Sys2Proof.Machine.execGetSensors tag station s
  | .getFaults tag => Sys2Proof.Machine.execGetFaults tag s
  | .getLinkCounts tag => Sys2Proof.Machine.execGetLinkCounts tag s
  | .resetPlay tag => Sys2Proof.Machine.execResetPlay tag s
  | .txFrameBegin => Sys2Proof.Machine.execTxFrameBegin s
  | .txFrameEnd => Sys2Proof.Machine.execTxFrameEnd s
  | .audclkEdge => Sys2Proof.Machine.execAudclkEdge s
  | .holdoverTick => Sys2Proof.Machine.execHoldoverTick s
  | .lossTimerExpiry => Sys2Proof.Machine.execLossTimerExpiry s
  | .sourceReturn => Sys2Proof.Machine.execSourceReturn s
  | .noteClose station => Sys2Proof.Machine.execNoteClose station s
  | .headClose station => Sys2Proof.Machine.execHeadClose station s
  | .mineCheck station => Sys2Proof.Machine.execMineCheck station s
  | .mineClose station => Sys2Proof.Machine.execMineClose station s
  | .effectiveEndReached station => Sys2Proof.Machine.execEffectiveEndReached station s
  | .holdDeadlineReached station => Sys2Proof.Machine.execHoldDeadlineReached station s
  | .syntheticPress station => Sys2Proof.Machine.execSyntheticPress station s
  | .syntheticRelease station => Sys2Proof.Machine.execSyntheticRelease station s
  | .rollPress station => Sys2Proof.Machine.execRollPress station s
  | .starvation station => Sys2Proof.Machine.execStarvation station s
  | .songEndReached station => Sys2Proof.Machine.execSongEndReached station s
  | .scanStart => Sys2Proof.Machine.execScanStart s
  | .scanComplete station samples => Sys2Proof.Machine.execScanComplete station samples s
  | .baselineLearn => Sys2Proof.Machine.execBaselineLearn s
  | .channelBlockEnd => Sys2Proof.Machine.execChannelBlockEnd s
  | .pressConfirm station panel => Sys2Proof.Machine.execPressConfirm station panel s
  | .releaseConfirm station panel => Sys2Proof.Machine.execReleaseConfirm station panel s
  | .stuckExit station panel => Sys2Proof.Machine.execStuckExit station panel s
  | .panelStuck station panel => Sys2Proof.Machine.execPanelStuck station panel s
  | .occupancyVacant station => Sys2Proof.Machine.execOccupancyVacant station s
  | .serviceCombo station => Sys2Proof.Machine.execServiceCombo station s
  | .flashEnd station panel => Sys2Proof.Machine.execFlashEnd station panel s
  | .pwmPeriodStart => Sys2Proof.Machine.execPwmPeriodStart s
  | .lampChainLatch => Sys2Proof.Machine.execLampChainLatch s
  | .powerLoss => Sys2Proof.Machine.execPowerLoss s

end Sys2Proof.Machine
end

