-- ==== Sys2Proof/Machine/Frames.lean ====
section
/-! DEFINITION. The frame each request is sent in (R169, R175): its kind, its TAG and its payload, written from the layouts of the
spec. The receiver does not use this file: it is the other direction, so that a claim can say that the part takes a whole frame
as the request the frame carries. -/

namespace Sys2Proof.Machine

/-- A request on the line. -/
structure RequestFrame where
  kind : Byte
  tag : Byte
  payload : List Byte
deriving DecidableEq, Repr

/-- The bytes of a bit vector, least significant byte first. -/
def bvBytes (size : Nat) {w : Nat} (v : BitVec w) : List Byte := leBytes size v.toNat

/-- The payload of CONFIG_JUDGE (R42). -/
def judgePayload (selector : Byte) (f : JudgeFields) : List Byte :=
  [selector] ++ bvBytes 4 f.w1 ++ bvBytes 4 f.w2 ++ bvBytes 4 f.w3 ++ bvBytes 4 f.w4 ++ bvBytes 4 f.w5 ++ bvBytes 4 f.wm
    ++ bvBytes 4 f.offset

/-- The payload of CONFIG_SCORING (R96). -/
def scoringPayload (rows : PerResult ScoreField) : List Byte :=
  rows.toList.flatMap fun f => bvBytes 2 f.points ++ bvBytes 2 f.life

/-- The payload of CONFIG_PANELS (R175). -/
def panelsPayload (f : PanelFields) : List Byte :=
  [f.selector] ++ bvBytes 2 f.panels ++ bvBytes 2 f.tOn ++ bvBytes 2 f.tOff ++ [f.dOn, f.dOff, f.stuckTime]
    ++ bvBytes 2 f.occupancyAge

/-- The payload of CONFIG_COMBO (R175). -/
def comboPayload (f : ComboFields) : List Byte := [f.selector] ++ bvBytes 2 f.lanes ++ [f.holdTime, f.flags]

/-- The payload of SET_LAMPS (R164). -/
def lampsPayload (f : LampFields) : List Byte :=
  [f.selector] ++ bvBytes 2 f.panels ++ [f.mode, f.level] ++ bvBytes 2 f.duration ++ bvBytes 2 f.results
    ++ bvBytes 4 f.period ++ [f.duty] ++ bvBytes 4 f.phase

/-- The payload of LOAD_STATION (R175). -/
def loadPayload (f : LoadFields) : List Byte :=
  [f.station] ++ bvBytes 2 f.mask ++ bvBytes 4 f.units ++ bvBytes 2 f.startLife ++ [f.flags]

/-- A note record on the line (R181): its end time is present for HOLD and ROLL only. `upper` is bits 9 to 15 of its lane field, which
the part ignores. -/
def RawNote.bytes (n : RawNote) (upper : BitVec 7) : List Byte :=
  bvBytes 2 n.id ++ leInt 4 n.time ++ [codeByte n.code] ++ bvBytes 2 (upper ++ n.lanes)
    ++ (if n.code = 1 ∨ n.code = 2 then leInt 4 n.endTime else [])

/-- The payload of NOTE_BLOCK (R181): its header, with the covered-until time, and its notes, each with the upper bits of its lane
field. -/
def blockPayload (station : Byte) (covered : Int) (notes : List (RawNote × BitVec 7)) : List Byte :=
  [station, codeByte notes.length] ++ leInt 4 covered ++ notes.flatMap fun n => n.1.bytes n.2

/-- The frame of a request; none for a command that is no request (R175). -/
def requestFrame : Instr → Option RequestFrame
  | .configTiming tag rate tolerance => some ⟨0x01, tag, bvBytes 4 rate ++ bvBytes 4 tolerance⟩
  | .configJudge tag selector f => some ⟨0x02, tag, judgePayload selector f⟩
  | .configHolds tag grace rollGap => some ⟨0x03, tag, bvBytes 4 grace ++ bvBytes 4 rollGap⟩
  | .configScoring tag rows => some ⟨0x04, tag, scoringPayload rows⟩
  | .configPanels tag f => some ⟨0x05, tag, panelsPayload f⟩
  | .configCombo tag f => some ⟨0x06, tag, comboPayload f⟩
  | .configReports tag stations => some ⟨0x07, tag, [stations]⟩
  | .setLamps tag f => some ⟨0x08, tag, lampsPayload f⟩
  | .loadStation tag f => some ⟨0x10, tag, loadPayload f⟩
  | .noteBlock tag payload => some ⟨0x11, tag, payload⟩
  | .chartEnd tag station endTime => some ⟨0x12, tag, [station] ++ bvBytes 4 endTime⟩
  | .abortSong tag stations => some ⟨0x13, tag, [stations]⟩
  | .clearStation tag station => some ⟨0x14, tag, [station]⟩
  | .armPresence tag station => some ⟨0x15, tag, [station]⟩
  | .seedBaseline tag station => some ⟨0x16, tag, [station]⟩
  | .startSong tag start => some ⟨0x20, tag, bvBytes 4 start⟩
  | .stopSong tag => some ⟨0x21, tag, []⟩
  | .anchor tag time => some ⟨0x22, tag, bvBytes 4 time⟩
  | .getStatus tag sect station => some ⟨0x30, tag, [sect, station]⟩
  | .getTally tag station => some ⟨0x31, tag, [station]⟩
  | .getResult tag station => some ⟨0x32, tag, [station]⟩
  | .getSensors tag station => some ⟨0x33, tag, [station]⟩
  | .getFaults tag => some ⟨0x34, tag, []⟩
  | .getLinkCounts tag => some ⟨0x35, tag, []⟩
  | .resetPlay tag => some ⟨0x3F, tag, []⟩
  | .powerOn | .pinResetAssert | .pinResetRelease | .rxByte _ | .gapTimeout | .txFrameBegin | .txFrameEnd | .audclkEdge
  | .holdoverTick | .lossTimerExpiry | .sourceReturn | .noteClose _ | .headClose _ | .mineCheck _ | .mineClose _
  | .effectiveEndReached _ | .holdDeadlineReached _ | .syntheticPress _ | .syntheticRelease _ | .rollPress _
  | .starvation _ | .songEndReached _ | .scanStart | .scanComplete _ _ | .baselineLearn | .channelBlockEnd
  | .pressConfirm _ _ | .releaseConfirm _ _ | .stuckExit _ _ | .panelStuck _ _ | .occupancyVacant _ | .serviceCombo _
  | .flashEnd _ _ | .pwmPeriodStart | .lampChainLatch | .powerLoss => none

/-- The bytes of a request's frame on the line, SYNC first (R169). -/
def RequestFrame.bytes (f : RequestFrame) : List Byte := frame f.kind f.tag f.payload

/-- The bytes given arrive one after another, each an RX_BYTE. -/
def receive : List Byte → State → Host.Outcome State Fault Refusal
  | [], s => .next s
  | b :: bs, s =>
    match execRxByte b s with
    | .next t => receive bs t
    | .fault f => .fault f
    | .refused r => .refused r

end Sys2Proof.Machine
end

