-- ==== Sys2Proof/WellFormed.lean ====
section
/-! DEFINITION. When a command is one the line can carry. Every fixed-size field has the type of its field, so only the
payload of NOTE_BLOCK, whose length varies, is left to check. -/

namespace Sys2Proof

/-- A payload a frame can carry: LENGTH is at most 248 (R169). -/
def payloadFits (payload : List Byte) : Bool := payload.length ≤ Config.payloadMax

/-- A command the part can be sent. -/
def Instr.wellFormed : Instr → Bool
  | .noteBlock _ payload => payloadFits payload
  | _ => true

end Sys2Proof
end

