-- ==== Sys2Proof/Safety.lean ====
section
/-! DEFINITION. What a safe state of the part is, block by block: the bounds the spec states for its queues, counts, gauges and
settings, and the agreement of the station states with the timeline (section 1.1). Claims are stated in these terms. -/

namespace Sys2Proof.Machine

/-! ### Requests -/

/-- The part runs and its reply queue has room, so that a request is executed (R171). -/
abbrev State.Ready (s : State) : Prop := s.live = true ∧ s.link.replies.length < 8

/-- A state whose link port has counted a frame as accepted and queued its reply (R171, R172). -/
def State.answered (s : State) (kind tag : Byte) (a : Answer) : State :=
  { s with
    link := { s.link with
      accepted := satAdd s.link.accepted 1
      replies := s.link.replies ++ [{ kind := kind, tag := tag, answer := a }] } }

/-! ### Frames of a change -/

/-- The two states differ at most in station `i`'s record, its lamps, the report queue, and the timeline's state with its pending
start. -/
abbrev State.DifferOnlyAt (i : StationId) (s t : State) : Prop :=
  { t with play := s.play } = s
    ∧ (∀ j, j ≠ i → t.play.station j = s.play.station j ∧ t.play.lamps.get j = s.play.lamps.get j)
    ∧ { t.play.timeline with state := s.play.timeline.state, pendingStart := s.play.timeline.pendingStart }
        = s.play.timeline
    ∧ t.play.scoring = s.play.scoring ∧ t.play.grace = s.play.grace ∧ t.play.rollGap = s.play.rollGap
    ∧ t.play.afterStep = s.play.afterStep ∧ t.play.periodBegun = s.play.periodBegun

/-- The report queue after records are queued one after another (R183). -/
def ReportQueue.pushAll (q : ReportQueue) (rs : List Report) : ReportQueue := rs.foldl ReportQueue.push q

/-! ### The transmitter's choice -/

/-- What the transmitter's choice makes of a state: the frame begun after `extra` crystal periods of idle line, 120 to the byte, by
the table of R174; a report frame carries the pending lost count in its TAG and clears it. With no frame waiting the idle time
is still asked for. -/
def State.Chose (s : State) (extra : Nat) (t : State) : Prop :=
  let reply (r : Reply) := frame 0x40 r.tag r.payload
  let report (q : Report) := frame q.body.kind (codeByte s.play.reports.pendingLost) q.payload
  match s.link.replies, s.play.reports.records with
  | r :: rs, [] =>
    t = { s with link := { s.link with
      tx := .sending (reply r) (120 * (reply r).length + extra), rest := 0, replies := rs, replyRun := 0 } }
  | r :: rs, q :: qs =>
    if s.link.replyRun < 4 then
      t = { s with link := { s.link with
        tx := .sending (reply r) (120 * (reply r).length + extra), rest := 0, replies := rs, replyRun := s.link.replyRun + 1 } }
    else
      t = { s with
        link := { s.link with tx := .sending (report q) (120 * (report q).length + extra), rest := 0, replyRun := 0 }
        play := { s.play with reports := { s.play.reports with records := qs, pendingLost := 0 } } }
  | [], q :: qs =>
    t = { s with
      link := { s.link with tx := .sending (report q) (120 * (report q).length + extra), rest := 0, replyRun := 0 }
      play := { s.play with reports := { s.play.reports with records := qs, pendingLost := 0 } } }
  | [], [] => t = { s with link := { s.link with tx := .idle, rest := extra } }

/-! ### Queues of the line -/

/-- The report queue within its bounds (R178, R183, R185). -/
abbrev ReportQueue.Bounded (q : ReportQueue) : Prop :=
  q.records.length ≤ 96 ∧ q.pendingLost ≤ 255 ∧ q.reportsLost ≤ 65535

/-- The reply queue, the reply run and the link counters within their bounds (R173, R174, R178). -/
abbrev Link.Bounded (l : Link) : Prop :=
  l.replies.length ≤ 8 ∧ l.replyRun ≤ 4 ∧ l.accepted ≤ 65535 ∧ l.crcErrors ≤ 65535 ∧ l.lengthErrors ≤ 65535
    ∧ l.gapTimeouts ≤ 65535 ∧ l.overruns ≤ 65535

/-- The line's two queues within their bounds. -/
abbrev State.LineBounded (s : State) : Prop := s.play.reports.Bounded ∧ s.link.Bounded

/-! ### Note queues -/

/-- No record's time lies after the tail time; an absent tail time allows no record (R23). -/
abbrev Feed.WithinTail (f : Feed) : Prop :=
  match f.tailTime with
  | some t => ∀ n ∈ f.queue, n.time ≤ t
  | none => f.queue = []

/-- The law of a note queue: at most 192 records in non-decreasing order of note time (R22), none after the tail time. -/
abbrev Feed.Lawful (f : Feed) : Prop :=
  f.queue.length ≤ 192 ∧ f.queue.Pairwise (fun a b => a.time ≤ b.time) ∧ f.WithinTail

/-! ### Tallies -/

/-- Every item of a tally within its range (R93, R99, R100, R103). -/
abbrev Tally.Bounded (t : Tally) : Prop :=
  (∀ r : Result, t.counts.get r ≤ 65535) ∧ t.voids ≤ 65535 ∧ t.strays ≤ 65535 ∧ t.discarded ≤ 65535
    ∧ t.points ≤ 4294967295 ∧ t.units ≤ 1000000 ∧ t.combo ≤ t.maxCombo ∧ t.maxCombo ≤ 65535 ∧ t.life ≤ 1000
    ∧ t.score ≤ 1000000

/-! ### Judge configurations -/

/-- A judge configuration within its ranges, its grade windows strictly increasing (R41). -/
abbrev JudgeConfig.Legal (c : JudgeConfig) : Prop :=
  1000 ≤ c.w1 ∧ c.w1 < c.w2 ∧ c.w2 < c.w3 ∧ c.w3 < c.w4 ∧ c.w4 < c.w5 ∧ c.w5 ≤ 250000 ∧ 1000 ≤ c.wm
    ∧ c.wm ≤ 250000 ∧ -200000 ≤ c.offset ∧ c.offset ≤ 200000

/-! ### The timeline -/

/-- The timeline's values within their ranges (section 6.1). -/
abbrev Timeline.InRange (tl : Timeline) : Prop :=
  -2147483648 ≤ tl.t ∧ tl.t ≤ 2147483647 ∧ tl.r < tl.rate ∧ 8000 ≤ tl.rate ∧ tl.rate ≤ 192000 ∧ 500 ≤ tl.tolerance
    ∧ tl.tolerance ≤ 100000 ∧ tl.badAnchors ≤ 2 ∧ tl.edgeRun ≤ 256
    ∧ ∀ start ∈ tl.pendingStart, -2147483648 ≤ start ∧ start ≤ 2147483647

/-! ### Station states and the timeline (section 1.1) -/

/-- A life gauge of 0 on a station with fail-enable set: the test of R101. -/
abbrev Station.Fails (st : Station) : Prop := st.failEnable = true ∧ st.tally.life = 0

/-- A station's items agree with its state: the outcome and the record stand in FINISHED alone, the lane mask in every state but
IDLE, notes in LOADED and in play alone, and a LOADED station or one in play holds no life 0 with fail-enable set (section 1.1, R1,
R75, R100, R106). -/
abbrev Station.Coherent (st : Station) : Prop :=
  (st.outcome.isSome ↔ st.state = .finished) ∧ (st.tally.record.isSome ↔ st.state = .finished)
    ∧ (st.laneMask.isSome ↔ st.state ≠ .idle)
    ∧ (st.feed.queue ≠ [] → st.state = .loaded ∨ st.inPlay = true)
    ∧ (st.state = .loaded ∨ st.inPlay = true → ¬ st.Fails)

/-- Hold entries stand on lanes of the mask of a station in play alone, and synthetic presses in play alone (R3, R4, R75). -/
abbrev Station.HoldsLawful (st : Station) : Prop :=
  (∀ lane : PanelId, (st.holds.get lane).isSome → st.inPlay = true ∧ LaneSet.has st.mask lane = true)
    ∧ (∀ lane : PanelId, (st.synth.get lane).pressed = true ∨ (st.synth.get lane).pendingRelease.isSome →
        st.inPlay = true)

/-- The timeline runs while a station is in play and only then, and waits to start while it has a pending start and a LOADED
station (section 1.1, R8, R17, R118). -/
abbrev Play.PhasesAgree (p : Play) : Prop :=
  (p.timeline.state = .running ↔ p.anyInPlay = true)
    ∧ (p.timeline.state = .starting ↔ p.timeline.pendingStart.isSome)
    ∧ (p.timeline.state = .starting → p.anyLoaded = true ∧ p.timeline.source = .external)
    ∧ (p.timeline.state = .running → p.anyLoaded = false)

/-- Every station is as its state asks, and the phases agree. -/
abbrev State.PlayCoherent (s : State) : Prop :=
  (∀ i : StationId, (s.play.station i).Coherent ∧ (s.play.station i).HoldsLawful) ∧ s.play.PhasesAgree

/-! ### Panels -/

/-- A panel's settings within their ranges, T_off below T_on (R156). -/
abbrev PanelConfig.Legal (c : PanelConfig) : Prop :=
  1 ≤ c.tOn ∧ c.tOn ≤ 16380 ∧ c.tOff < c.tOn ∧ 1 ≤ c.dOn ∧ c.dOn ≤ 8 ∧ 1 ≤ c.dOff ∧ c.dOff ≤ 8 ∧ 1 ≤ c.stuckTime
    ∧ c.stuckTime ≤ 120

/-- A song time within the range of T (00_scope.md, "Two clocks"). -/
abbrev InTimeRange (t : Int) : Prop := -2147483648 ≤ t ∧ t ≤ 2147483647

/-- A panel state's run count and run stamp, or exit count, within their ranges (R145, R149). -/
abbrev PanelState.RunInRange (ps : PanelState) : Prop :=
  match ps with
  | .pressing stamp n => InTimeRange stamp ∧ 1 ≤ n ∧ n ≤ 8
  | .releasing stamp n => InTimeRange stamp ∧ 1 ≤ n ∧ n ≤ 8
  | .stuck n => n ≤ 8
  | _ => True

/-- A panel record within its ranges (R145). -/
abbrev Panel.InRange (p : Panel) : Prop :=
  p.state.RunInRange ∧ p.stuckTimer ≤ 120000000 ∧ p.config.Legal

/-- A station's panel unit within its ranges (R145). -/
abbrev PanelStation.InRange (ps : PanelStation) : Prop :=
  (∀ j : PanelId, (ps.panels.get j).InRange) ∧ ps.occupancyTimer ≤ 600000000 ∧ ps.occupancyAge ≤ 600 ∧ 1 ≤ ps.comboHold
    ∧ ps.comboHold ≤ 10 ∧ ps.comboTimer ≤ 10000000

/-! ### Channels -/

/-- A channel record within its ranges (section 7.2). -/
abbrev Channel.InRange (c : Channel) : Prop := c.raw ≤ 4095 ∧ c.b16 ≤ 65520 ∧ c.railCount ≤ 1000 ∧ c.load ≤ 4095

/-- The scanner within its ranges (section 7.2, R130 to R132, R135). -/
abbrev Scanner.InRange (sc : Scanner) : Prop :=
  sc.learnPhase ≤ 15 ∧ sc.blockPos ≤ 999 ∧ sc.countdown ≤ 250 ∧ InTimeRange sc.scanStamp
    ∧ ∀ i : StationId, InTimeRange (sc.stations.get i).stamp
      ∧ ∀ j : PanelId, ((sc.stations.get i).loads.get j) ≤ 16380
        ∧ ∀ c ∈ ((sc.stations.get i).channels.get j).toList, c.InRange

/-! ### Lamps -/

/-- A lamp mode's settings within their ranges (section 9.1); the flash remaining may stand one crystal period above its duration
(entry 37). -/
abbrev LampMode.InRange (m : LampMode) : Prop :=
  match m with
  | .off => True
  | .steady v => v ≤ 15
  | .follow v => v ≤ 15
  | .flash v d _ remaining => v ≤ 15 ∧ 10 ≤ d ∧ d ≤ 1000 ∧ remaining ≤ d * 12000 + 1
  | .beat v period duty _ => v ≤ 15 ∧ 100000 ≤ period ∧ period ≤ 2000000 ∧ 1 ≤ duty ∧ duty ≤ 4

/-- A lamp within its ranges: its on-time is at most the PWM period (section 9.1). -/
abbrev Lamp.InRange (l : Lamp) : Prop := l.mode.InRange ∧ l.onTime ≤ 1000

/-- The lamp chain within its ranges: no value above the PWM period (R163, R182). -/
abbrev LampDrive.InRange (d : LampDrive) : Prop :=
  d.countdown ≤ 1000 ∧ d.shiftLeft ≤ 720 ∧ d.latchLeft ≤ 12
    ∧ ∀ (i : StationId) (j : PanelId), (d.chain.get i).get j ≤ 1000 ∧ (d.latched.get i).get j ≤ 1000

end Sys2Proof.Machine
end

