-- ==== Sys2Proof/Rules.lean ====
section
/-! DEFINITION. The rules of the longer paths written once more as plain functions of the state, from their tables and in their
steps: what a result, a press, a release, an edge and a panel's scan make of the part, and the rows by which reached deadlines
are taken. The machine does not use this file; claims compare the machine with it. -/

namespace Sys2Proof.Machine

/-! ### Reached deadlines by their rows -/

/-- What a command makes of a state. -/
def State.runs (s : State) (c : Instr) : State :=
  match exec c s with
  | .next t => t
  | _ => s

/-- The row of a station's deadline (95_what_each_step_holds.md). -/
def rowOf (i : StationId) : Deadline → Instr
  | .noteClose _ => .noteClose i
  | .headClose _ => .headClose i
  | .mineCheck _ => .mineCheck i
  | .mineClose _ => .mineClose i
  | .holdEnd _ => .effectiveEndReached i
  | .holdDeadline _ => .holdDeadlineReached i
  | .synthRelease _ => .syntheticRelease i
  | .rollPress _ => .rollPress i
  | .synthPress _ => .syntheticPress i
  | .starvation => .starvation i

/-- A station's reached deadlines taken by their rows, the lowest first, at most `n` of them (R45; entry 27). -/
def State.rowsTaken (i : StationId) : Nat → State → State
  | 0, s => s
  | n + 1, s =>
    match s.play.nextDue i with
    | none => s
    | some d => State.rowsTaken i n (s.runs (rowOf i d.2))

/-- One station takes all that T has reached: its deadlines, then its song end time (R9, R45, R113). -/
def State.stationSettled (s : State) (i : StationId) : State :=
  (s.rowsTaken i (8 * (s.play.station i).feed.queue.length + 40)).runs (.songEndReached i)

/-- Every station in play takes all that T has reached, in ascending order (R113; entry 9). -/
def State.settledByRows (s : State) : State :=
  stationIds.foldl (fun u i => if (u.play.station i).inPlay then u.stationSettled i else u) s

/-! ### Entering RUNNING -/

/-- A LOADED station as it enters play: RUNNING, or DRAINING when its chart is complete; any other station (R7). -/
def Station.entersByRules (st : Station) : Station :=
  if st.state = .loaded then { st with state := if st.feed.chartComplete then .draining else .running } else st

/-- The reports that the entry into RUNNING at `start` begins with: TIMELINE (started), then the STATION reports of the stations
that enter play, in ascending order (R7, R119). -/
def Play.startReports (p : Play) (start : Int) : List Report :=
  ⟨start, .timeline .started start p.timeline.source .free 0⟩ ::
    (stationIds.filter fun i => decide ((p.station i).state = .loaded)).map fun i =>
      ⟨start, .station i (p.station i).entersByRules.state (p.station i).outcome⟩

/-- The timeline enters RUNNING at `start`: T, R, the lock and the bad anchors; the LOADED stations, all together; the reports; the
moves of the run stamps and of the stamp of a scan under way; then each station that entered takes what T has reached, in
ascending order (R7, R67, R119, R127, R131). -/
def State.enteredByRules (start : Int) (s : State) : State :=
  let p := s.play
  let move := start - p.timeline.t
  let entered : State := { s with
    play := { p with
      timeline := { p.timeline with
        state := .running, t := start, r := 0, pendingStart := none, startTime := start, lock := .free, badAnchors := 0 }
      stations := p.stations.map Station.entersByRules
      reports := p.reports.pushAll (p.startReports start) }
    panels := s.panels.map fun ps =>
      { ps with panels := ps.panels.map fun q => { q with state := q.state.moveStamp move } }
    scanner := { s.scanner with
      scanStamp := if s.scanner.waiting.any id then max (-2147483648) (min 2147483647 (s.scanner.scanStamp + move))
        else s.scanner.scanStamp } }
  (stationIds.filter fun i => decide ((p.station i).state = .loaded)).foldl
    (fun u i => if (u.play.station i).inPlay then u.stationSettled i else u) entered

/-! ### The deadlines of a station -/

/-- Whether a value and a deadline are one of a station's untaken deadlines: a queued record's (R44), an entry's (R84), a
synthetic edge of an autoplay station (R69, R71), or the starvation test (R36). -/
def Play.DueByRules (p : Play) (i : StationId) (d : Due) : Prop :=
  let st := p.station i
  let e (n : NoteRecord) : Int := n.time + st.judge.offset
  match d.2 with
  | .noteClose k => ∃ n, st.feed.queue[k]? = some n ∧ n.kind = .tap ∧ d.1 = e n + st.judge.w5 + 2000
  | .headClose k => ∃ n t, st.feed.queue[k]? = some n ∧ (n.kind = .hold t ∨ n.kind = .roll t) ∧ d.1 = e n + st.judge.w5 + 2000
  | .mineCheck k => ∃ n, st.feed.queue[k]? = some n ∧ n.kind = .mine ∧ n.checkTaken = false ∧ d.1 = e n
  | .mineClose k => ∃ n, st.feed.queue[k]? = some n ∧ n.kind = .mine ∧ d.1 = e n + st.judge.wm + 2000
  | .holdEnd lane => ∃ h, st.holds.get lane = some h ∧ d.1 = h.effectiveEnd
  | .holdDeadline lane => ∃ h, st.holds.get lane = some h ∧ (h.state = .letGo d.1 ∨ h.state = .rolling d.1)
  | .synthRelease lane => st.autoplay = true ∧ (st.synth.get lane).pendingRelease = some d.1
  | .rollPress lane => st.autoplay = true ∧ ∃ h, st.holds.get lane = some h ∧ h.nextPress = some d.1
  | .synthPress k => st.autoplay = true
      ∧ ∃ n, st.feed.queue[k]? = some n ∧ n.kind ≠ .mine ∧ n.pressTaken = false ∧ d.1 = e n
  | .starvation => st.state = .running ∧ st.feed.chartComplete = false ∧ st.feed.starved = false
      ∧ (st.feed.horizon = .value d.1 ∨ (st.feed.horizon = .unset ∧ d.1 = p.timeline.startTime))

/-- The place of a deadline among those of equal value, as a pair compared by its first number and then by its second: records in
queue order, entries by lane with the end before the deadline, synthetic releases, roll presses and presses of notes, the
starvation test last (R36, R45, R71, R84). -/
def Deadline.place : Deadline → Nat × Nat
  | .noteClose k => (0, 2 * k)
  | .headClose k => (0, 2 * k)
  | .mineCheck k => (0, 2 * k)
  | .mineClose k => (0, 2 * k + 1)
  | .holdEnd lane => (1, 2 * lane.val)
  | .holdDeadline lane => (1, 2 * lane.val + 1)
  | .synthRelease lane => (2, lane.val)
  | .rollPress lane => (3, lane.val)
  | .synthPress k => (4, k)
  | .starvation => (5, 0)

/-- A deadline is taken no later than another: by value, and by place where the values are equal (R45). -/
def Due.NoLater (d e : Due) : Prop :=
  d.1 < e.1 ∨ (d.1 = e.1 ∧ (d.2.place.1 < e.2.place.1 ∨ (d.2.place.1 = e.2.place.1 ∧ d.2.place.2 ≤ e.2.place.2)))

/-! ### A settlement -/

/-- The finishing test of a DRAINING station (R9). -/
abbrev Station.Clears (st : Station) (t : Int) : Prop :=
  st.state = .draining ∧ st.feed.queue = [] ∧ (∀ lane : PanelId, st.holds.get lane = none) ∧ st.endReached t = true

/-- A station that is discarded and finished: FINISHED, what it held discarded, its record built (R10, R11, R13, R68, R106). -/
def Station.afterDiscard (st : Station) (o : SongOutcome) : Station :=
  let tally := { st.tally with discarded := min 65535 (st.tally.discarded + (st.feed.queue.length + st.holdCount)) }
  { st with
    state := .finished, outcome := some o, synth := .all ⟨false, none⟩, holds := .all none
    feed := { st.feed with queue := [] }
    tally := { tally with record := some (tally.toRecord o) } }

/-- A failed station (R11). -/
def Station.afterFailure (st : Station) : Station := st.afterDiscard .failed

/-- A cleared station (R9, R68, R106). -/
def Station.afterClearing (st : Station) : Station :=
  { st with
    state := .finished, outcome := some .cleared, synth := .all ⟨false, none⟩
    tally := { st.tally with record := some (st.tally.toRecord .cleared) } }

/-- The play blocks when a settlement leaves station `i` as `st`, the lamps as `lamps` and the reports `told`: the station fails,
or clears, with its STATION and RESULT reports, and the timeline stops with the last station in play (R9, R11, R17, R18, R106,
R121). -/
def Play.settlementByRules (p : Play) (i : StationId) (st : Station) (lamps : Four (Nine Lamp)) (told : List Report) : Play :=
  let now := p.timeline.t
  let left : Bool := decide (st.Fails ∨ st.Clears now)
  let u := if st.Fails then st.afterFailure else if st.Clears now then st.afterClearing else st
  let stops : Bool := left && decide (p.timeline.state = .running ∧ ∀ j, j ≠ i → (p.station j).inPlay = false)
  let finishing : List Report :=
    match u.outcome with
    | some o => if left then [⟨now, .station i .finished (some o)⟩, ⟨now, .result i (u.tally.toRecord o)⟩] else []
    | none => []
  let stopping : List Report :=
    if stops then [⟨now, .timeline .stopped now p.timeline.source p.timeline.lock 0⟩] else []
  { p with
    stations := p.stations.set i u
    lamps := lamps
    timeline := if stops then { p.timeline with state := .stopped, pendingStart := none } else p.timeline
    reports := p.reports.pushAll (told ++ finishing ++ stopping) }

/-- The timeline becomes STOPPED, T held, with its TIMELINE report (R121). -/
def Play.stoppedByRules (p : Play) : Play :=
  let tl := p.timeline
  { p with
    timeline := { tl with state := .stopped, pendingStart := none }
    reports := p.reports.push ⟨tl.t, .timeline .stopped tl.t tl.source tl.lock 0⟩ }

/-- One station handled by the table of R13: the station after it, with its STATION and RESULT reports (R13, R18, R106). -/
def Play.abortByRules (p : Play) (i : StationId) : Play :=
  let st := p.station i
  let after : Option (Station × SongOutcome) :=
    match st.state with
    | .idle => none
    | .loaded => some (st.afterDiscard .aborted, .aborted)
    | .running => some (st.afterDiscard .aborted, .aborted)
    | .draining =>
      if st.feed.queue = [] ∧ ∀ lane : PanelId, st.holds.get lane = none then some (st.afterClearing, .cleared)
      else some (st.afterDiscard .aborted, .aborted)
    | .finished => none
  match after with
  | none => p
  | some (u, o) =>
    { p with
      stations := p.stations.set i u
      reports := p.reports.pushAll
        [⟨p.timeline.t, .station i .finished (some o)⟩, ⟨p.timeline.t, .result i (u.tally.toRecord o)⟩] }

/-- The test after an abort: RUNNING with no station in play, or STARTING with none LOADED, stops the timeline (R8, R12, R15,
R17). -/
def Play.abortTestByRules (p : Play) : Play :=
  if (p.timeline.state = .running ∧ ∀ i : StationId, (p.station i).inPlay = false)
      ∨ (p.timeline.state = .starting ∧ ∀ i : StationId, (p.station i).state ≠ .loaded) then p.stoppedByRules
  else p

/-- The feed advice when a settlement leaves station `i` as `st`: the free count has risen from below 96 to 96 or more, the station
is LOADED or RUNNING with its chart not complete, and it has not failed (R35). -/
def Play.adviceByRule (p : Play) (i : StationId) (st : Station) : List Report :=
  if 96 < (p.station i).feed.queue.length ∧ st.feed.queue.length ≤ 96 ∧ (st.state = .loaded ∨ st.state = .running)
      ∧ st.feed.chartComplete = false ∧ ¬ st.Fails then
    [⟨p.timeline.t, .feed i (192 - st.feed.queue.length) st.feed.horizon st.feed.starved⟩]
  else []

/-- The JUDGE report of a result, with the tally after it (R58, R94). -/
def Play.judgeByRule (p : Play) (i : StationId) (n : NoteRecord) (r : Result) (u : Tally) (delta : Option Int) : Report :=
  ⟨p.timeline.t, .judge i n.id n.lanes (.scored r) (p.station i).autoplay p.afterStep u.overUnits u.combo u.life u.score delta⟩

/-- The HOLD_END report of a tail, with the tally after it (R85). -/
def Play.holdEndByRule (p : Play) (i : StationId) (id : BitVec 16) (lane : PanelId) (r : Result) (u : Tally) : Report :=
  ⟨p.timeline.t, .holdEnd i id lane r u.combo u.life u.score⟩

/-- The grade of a delta (R53). -/
def JudgeConfig.gradeByRule (c : JudgeConfig) (delta : Int) : Result :=
  if delta.natAbs ≤ c.w1 then .crisp else if delta.natAbs ≤ c.w2 then .solid else if delta.natAbs ≤ c.w3 then .fair
  else if delta.natAbs ≤ c.w4 then .loose else .poor

/-! ### A press and a release -/

/-- The queue after the mine step of a press on `lane` with stamp `t` (R49). -/
def minesByRule (c : JudgeConfig) (lane : PanelId) (t : Int) (queue : List NoteRecord) : List NoteRecord :=
  queue.map fun n : NoteRecord =>
    if n.kind = .mine ∧ LaneSet.has n.lanes lane = true ∧ (t - (n.time + c.offset)).natAbs ≤ c.wm then
      { n with touched := true }
    else n

/-- A candidate of a press (R51). -/
def candidateByRule (c : JudgeConfig) (lane : PanelId) (t : Int) (n : NoteRecord) : Bool :=
  decide (n.kind ≠ .mine ∧ LaneSet.has n.lanes lane = true ∧ (∀ h ∈ n.laneHits, h.lane ≠ lane)
    ∧ (t - (n.time + c.offset)).natAbs ≤ c.w5)

/-- A HOLD or ROLL head that takes a press with stamp `t`; `st` is the station with the record still at position `k` of its queue
(R57, R76, R77, R79, R80, R86). -/
def Play.headByRules (p : Play) (i : StationId) (st : Station) (k : Nat) (n : NoteRecord) (lane : PanelId) (t endTime : Int)
    (isRoll down : Bool) : Play :=
  let now := p.timeline.t
  let delta := t - (n.time + st.judge.offset)
  let r := st.judge.gradeByRule delta
  let w := st.tally.apply p.scoring r
  let head := p.judgeByRule i n r w (some delta)
  let lamps := p.lampResult i n.lanes r
  let judged : Station := { st with tally := w }
  let gone : Station := { judged with feed := { st.feed with queue := st.feed.queue.eraseIdx k } }
  let e := endTime + st.judge.offset
  let limit : Option Int := if isRoll then some (t + p.rollGap) else if down then none else some (t + p.grace)
  let next := t + (p.rollGap / 2 : Nat)
  let entry : HoldEntry :=
    { id := n.id
      effectiveEnd := e
      state := match limit with
        | none => .holding
        | some d => if isRoll then .rolling d else .letGo d
      nextPress := if st.autoplay = true ∧ isRoll = true ∧ next < e then some next else none }
  let tail (r' : Result) : Report := p.holdEndByRule i n.id lane r' (w.apply p.scoring r')
  let tailed (r' : Result) : Station := { gone with tally := w.apply p.scoring r' }
  let lamps' (r' : Result) : Four (Nine Lamp) := (lamps.lampResult i (LaneSet.single lane) r').lamps
  if judged.Fails then p.settlementByRules i judged lamps.lamps [head]
  else if e ≤ now then
    p.settlementByRules i (tailed .held) (lamps' .held) ([head, tail .held] ++ p.adviceByRule i (tailed .held))
  else if ∃ d ∈ limit, d ≤ now then
    p.settlementByRules i (tailed .dropped) (lamps' .dropped) ([head] ++ p.adviceByRule i gone ++ [tail .dropped])
  else
    p.settlementByRules i { gone with holds := st.holds.set lane (some entry) } lamps.lamps
      ([head] ++ p.adviceByRule i gone)

/-- A press of `lane` with stamp `t`, offered to station `i`: the mines, the hold table, the search (R49 to R57, R82). `down` is the
judge's view of the lane. -/
def Play.pressByRules (p : Play) (i : StationId) (lane : PanelId) (t : Int) (down : Bool) : Play :=
  let c := (p.station i).judge
  let queue := minesByRule c lane t (p.station i).feed.queue
  let st : Station := { p.station i with feed := { (p.station i).feed with queue := queue } }
  match st.holds.get lane with
  | some e =>
    p.setStation i { st with holds := st.holds.set lane (some { e with state := match e.state with
      | .holding => .holding
      | .letGo _ => .holding
      | .rolling _ => .rolling (t + p.rollGap) }) }
  | none =>
    match queue.findIdx? (candidateByRule c lane t) with
    | none =>
      p.setStation i { st with tally := { st.tally with
        strays := if st.feed.starved then st.tally.strays else min 65535 (st.tally.strays + 1) } }
    | some k =>
      match queue[k]? with
      | none => p
      | some n =>
        match n.kind with
        | .tap =>
          let hits := n.laneHits ++ [{ lane := lane, delta := t - (n.time + c.offset) }]
          if ∀ l : PanelId, LaneSet.has n.lanes l = true → ∃ h ∈ hits, h.lane = l then
            let worst := ((hits.find? fun h => hits.all fun g => g.delta.natAbs ≤ h.delta.natAbs).map LaneHit.delta).getD 0
            let r := c.gradeByRule worst
            let w := st.tally.apply p.scoring r
            let gone : Station := { st with tally := w, feed := { st.feed with queue := queue.eraseIdx k } }
            p.settlementByRules i gone (p.lampResult i n.lanes r).lamps
              ([p.judgeByRule i n r w (some worst)] ++ p.adviceByRule i gone)
          else p.setStation i { st with feed := { st.feed with queue := queue.set k { n with laneHits := hits } } }
        | .hold e => p.headByRules i st k n lane t e false down
        | .roll e => p.headByRules i st k n lane t e true down
        | .mine => p

/-- A release of `lane` with stamp `r`, offered to station `i` (R81, R84 to R86). -/
def Play.releaseByRules (p : Play) (i : StationId) (lane : PanelId) (r : Int) : Play :=
  let st := p.station i
  match st.holds.get lane with
  | none => p
  | some e =>
    match e.state with
    | .holding =>
      let d := r + p.grace
      if p.timeline.t < d then
        p.setStation i { st with holds := st.holds.set lane (some { e with state := .letGo d }) }
      else
        let res : Result := if e.effectiveEnd ≤ p.timeline.t ∧ e.effectiveEnd ≤ d then .held else .dropped
        let u := st.tally.apply p.scoring res
        p.settlementByRules i { st with tally := u, holds := st.holds.set lane none }
          (p.lampResult i (LaneSet.single lane) res).lamps [p.holdEndByRule i e.id lane res u]
    | .letGo _ => p
    | .rolling _ => p

/-! ### A physical edge and a panel's scan -/

/-- A physical edge is given, in STOPPED and STARTING with the held T for its stamp, and delivered: the report of an enabled station,
the judge, occupancy (R47, R48, R73, R110, R149, R155, R157). -/
def State.edgeByRules (i : StationId) (j : PanelId) (e : Edge) (s : State) : State :=
  let now := s.play.timeline.t
  let st := s.play.station i
  let ps := s.panelStation i
  let offered : Bool :=
    decide ((st.state = .running ∨ st.state = .draining) ∧ LaneSet.has st.mask j = true ∧ st.autoplay = false)
  let told (body : ReportBody) : Play :=
    if s.play.reports.pressEnables.get i then { s.play with reports := s.play.reports.push ⟨now, body⟩ } else s.play
  let carried (stamp : Int) : Int :=
    match s.play.timeline.state with
    | .running => stamp
    | .stopped => now
    | .starting => now
  match e with
  | .press stamp =>
    let p := told (.press i j (carried stamp))
    let q :=
      if offered then p.pressByRules i j (max (now - 2000) (min now (carried stamp))) (s.panel i j).isDown else p
    { s with
      play := if ps.occupied = false ∧ ps.armed = true then
          { q with reports := q.reports.push ⟨now, .presence i false⟩ }
        else q
      panels := s.panels.set i { ps with
        occupied := true, occupancyTimer := 0, armed := ps.armed && ps.occupied } }
  | .release stamp =>
    let p := told (.release i j (carried stamp))
    { s with play := if offered then p.releaseByRules i j (max (now - 2000) (min now (carried stamp))) else p }

/-- The move of a panel with a healthy channel on its load: the panel, and the edge it gives (R147, R148, R152). -/
def Panel.moveByRules (p : Panel) (stamp : Int) (load : Nat) : Panel × Option Edge :=
  let c := p.config
  match p.state with
  | .released =>
    if load < c.tOn then (p, none)
    else if c.dOn ≤ 1 then ({ p with state := .pressed, stuckTimer := 0 }, some (.press stamp))
    else ({ p with state := .pressing stamp 1 }, none)
  | .pressing run n =>
    if load < c.tOn then ({ p with state := .released, stuckTimer := 0 }, none)
    else if c.dOn ≤ n + 1 then ({ p with state := .pressed, stuckTimer := 0 }, some (.press run))
    else ({ p with state := .pressing run (n + 1) }, none)
  | .pressed =>
    if c.tOff ≤ load then (p, none)
    else if c.dOff ≤ 1 then ({ p with state := .released, stuckTimer := 0 }, some (.release stamp))
    else ({ p with state := .releasing stamp 1 }, none)
  | .releasing run n =>
    if c.tOff ≤ load then ({ p with state := .pressed }, none)
    else if c.dOff ≤ n + 1 then ({ p with state := .released, stuckTimer := 0 }, some (.release run))
    else ({ p with state := .releasing run (n + 1) }, none)
  | .stuck n =>
    if c.tOff ≤ load then ({ p with state := .stuck 0 }, none)
    else if c.dOff ≤ n + 1 then ({ p with state := .released, stuckTimer := 0 }, none)
    else ({ p with state := .stuck (n + 1) }, none)
  | .dead => (p, none)

/-- A panel takes its scan: DEAD with no healthy channel; else its move, its edge, its stuck timer; then a channel's recovery
(R146, R150, R151, R153, R154). -/
def State.panelByRules (i : StationId) (j : PanelId) (stamp : Int) (load healthy : Nat) (recovered : Bool) (s : State) : State :=
  let put (p : Panel) (u : State) : State := u.setPanel i j p
  let told (e : FaultEvent) (u : State) : State :=
    { u with play := { u.play with reports := u.play.reports.push ⟨u.play.timeline.t, .fault i j.val e⟩ } }
  let p := s.panel i j
  let u : State :=
    if healthy = 0 then
      let dead := told .panelDead (put { p with state := .dead, stuckTimer := 0 } s)
      match p.state with
      | .dead => s
      | .pressed => dead.edgeByRules i j (.release stamp)
      | .releasing run _ => dead.edgeByRules i j (.release run)
      | _ => dead
    else
      let m := p.moveByRules stamp load
      let v := match m.2 with
        | none => put m.1 s
        | some e => (put m.1 s).edgeByRules i j e
      let pressed : Bool := match m.2 with
        | some (.press _) => true
        | _ => false
      let q := v.panel i j
      if pressed = false ∧ q.isDown = true ∧ (v.play.station i).holds.get j = none then
        if q.config.stuckTime * 1000000 ≤ q.stuckTimer + 250 then
          (told .panelStuck (put { q with state := .stuck 0, stuckTimer := 0, stuckLatch := true } v)).edgeByRules i j
            (.release stamp)
        else put { q with stuckTimer := q.stuckTimer + 250 } v
      else v
  if recovered = true ∧ (u.panel i j).state = .dead then put { u.panel i j with state := .released, stuckTimer := 0 } u
  else u

/-- A station's occupancy at the end of its scan (R157). -/
def State.occupancyByRules (i : StationId) (s : State) : State :=
  let ps := s.panelStation i
  if ps.occupied = true ∧ ps.occupancyAge ≠ 0 ∧ ∀ j : PanelId, (s.panel i j).isDown = false then
    if ps.occupancyAge * 1000000 ≤ ps.occupancyTimer + 250 then
      { s with
        panels := s.panels.set i { ps with occupied := false, occupancyTimer := 0 }
        play := { s.play with reports := s.play.reports.push ⟨s.play.timeline.t, .presence i true⟩ } }
    else { s with panels := s.panels.set i { ps with occupancyTimer := ps.occupancyTimer + 250 } }
  else s

/-- A station's service combo at the end of its scan (R15, R159). -/
def State.comboByRules (i : StationId) (s : State) : State :=
  let ps := s.panelStation i
  let put (ps : PanelStation) (p : Play) : State := { s with panels := s.panels.set i ps, play := p }
  if ps.comboLanes = 0 then s
  else if ps.comboSpent then
    if ∃ j : PanelId, LaneSet.has ps.comboLanes j = true ∧ (s.panel i j).isDown = true then s
    else put { ps with comboSpent := false, comboTimer := 0 } s.play
  else if ∀ j : PanelId, LaneSet.has ps.comboLanes j = true → (s.panel i j).isDown = true then
    if ps.comboHold * 1000000 ≤ ps.comboTimer + 250 then
      let p := { s.play with reports := s.play.reports.push ⟨s.play.timeline.t, .service i⟩ }
      put { ps with comboSpent := true, comboTimer := 0 } (if ps.comboAbort then (p.abortByRules i).abortTestByRules else p)
    else put { ps with comboTimer := ps.comboTimer + 250 } s.play
  else put { ps with comboTimer := 0 } s.play

/-- A channel after its sample: raw, rail test, seed, load, learning (R132 steps 1 to 4, R133 to R136). -/
def Channel.sampleByRules (c : Channel) (raw : Nat) (learns : Bool) : Channel :=
  let seeded : Bool := !c.faulty && c.seedPending
  let base := if seeded then raw * 16 else c.b16
  { raw := raw
    b16 := if learns = true ∧ seeded = false ∧ c.faulty = false then
        ((base : Int) + ((raw * 16 : Int) - base).tdiv 64).toNat
      else base
    faulty := c.faulty
    seedPending := if seeded then false else c.seedPending
    railCount := min 1000 (c.railCount + if raw ≤ 15 ∨ 4080 ≤ raw then 1 else 0)
    latch := c.latch
    load := raw - base / 16 }

/-- A channel at its block's end (R136 to R138). -/
def Channel.blockByRules (c : Channel) : Channel :=
  if 915 ≤ c.railCount ∧ c.faulty = false then { c with faulty := true, latch := true, railCount := 0 }
  else if c.railCount ≤ 10 ∧ c.faulty = true then { c with faulty := false, seedPending := true, railCount := 0 }
  else { c with railCount := 0 }

/-- The four corners of a panel in channel order. -/
def corners : List (Fin 4) := [0, 1, 2, 3]

/-- The FAULT reports of a station's channels whose health changes, in channel order (R139, R140). -/
def faultsByRule (i : StationId) (now : Int) (before after : PanelId → Fin 4 → Channel) : List Report :=
  panelIds.flatMap fun j => corners.flatMap fun k =>
    if (before j k).faulty = false ∧ (after j k).faulty = true then [⟨now, .fault i (4 * j.val + k.val) .channelFaulty⟩]
    else if (before j k).faulty = true ∧ (after j k).faulty = false then
      [⟨now, .fault i (4 * j.val + k.val) .channelRecovered⟩]
    else []

end Sys2Proof.Machine
end

