-- ==== Sys2Proof/Certificates/Slice0/Obligations.lean ====
section
/-! DEFINITION. The statements about the WZ416. Each is closed: it quantifies over every state and every operand it speaks of, and
its hypotheses are on the state and the operands alone. `s.Ready` is a part that runs with room in its reply queue; `answered`
is a state with the request's frame counted and its reply queued. -/

open Sys2Proof Sys2Proof.Machine

/-! ### The queue of commands -/

/-- A step takes the command at the front and executes it on the state with the queue's rest. -/
def Obligations.StepRunsFrontCommand : Prop :=
  ∀ (s : State) (c : Instr) (rest : List Instr), s.pending = c :: rest → step s = exec c { s with pending := rest }

/-- The model's choice of what an empty queue means (entry 3): nothing without supply or in reset; otherwise one crystal period, put
together of the rows that come due in it. An IDLE transmitter begins a frame. On the first crystal period of a local microsecond
a scan begins at the end of its 250 µs, a PWM period at the end of its 1,000 µs, and the latch pulses 100 µs after a PWM period's
start. Then the local time rises by one crystal period, and every flash remaining, the lamp chain and the idle line count down by
one. On the last crystal period of a local microsecond a microsecond of HOLDOVER passes and the scan and PWM periods count down by
one. Then the loss timer rises on EXTERNAL and expires at 1,000 µs, the gap timer rises inside a frame and times out above
1,000 µs, and the frame being sent comes one crystal period nearer its end and ends. That the timers count crystal periods is
entry 37. -/
def Obligations.EmptyQueueIsOneCrystalPeriod : Prop :=
  ∀ s : State, s.pending = [] →
    (s.live = false → step s = .next s)
      ∧ (s.live = true →
        let begun := s.runs .txFrameBegin
        let scanned := if begun.scanner.countdown = 0 then begun.runs .scanStart else begun
        let lit := if scanned.drive.countdown = 0 then scanned.runs .pwmPeriodStart else scanned
        let latched := if lit.drive.countdown = 900 then lit.runs .lampChainLatch else lit
        let opened := if s.localTime % 12 = 0 then latched else begun
        let passed : State := { opened with
          localTime := s.localTime + 1
          play := { opened.play with
            periodBegun := false
            lamps := opened.play.lamps.map fun row => row.map fun l : Lamp =>
              match l.mode with
              | .flash v d set n => { l with mode := .flash v d set (n - 1) }
              | _ => l }
          drive := { opened.drive with
            shiftLeft := opened.drive.shiftLeft - 1, latchLeft := opened.drive.latchLeft - 1 }
          link := { opened.link with rest := opened.link.rest - 1 } }
        let held := passed.runs .holdoverTick
        let closed : State :=
          if passed.localTime % 12 = 0 then { held with
            scanner := { held.scanner with countdown := held.scanner.countdown - 1 }
            drive := { held.drive with countdown := held.drive.countdown - 1 } }
          else passed
        let tl := closed.play.timeline
        let watched : State :=
          if tl.source = .holdover then closed
          else if 12000 ≤ tl.lossTimer + 1 then closed.runs .lossTimerExpiry
          else { closed with play := { closed.play with timeline := { tl with lossTimer := tl.lossTimer + 1 } } }
        let heard : State :=
          if watched.link.rx = .hunting then watched
          else if 12000 < watched.link.gapTimer + 1 then watched.runs .gapTimeout
          else { watched with link := { watched.link with gapTimer := watched.link.gapTimer + 1 } }
        step s = .next (match heard.link.tx with
          | .idle => heard
          | .sending bytes left =>
            if left ≤ 1 then heard.runs .txFrameEnd
            else { heard with link := { heard.link with tx := .sending bytes (left - 1) } })
          ∧ ∃ t, step s = .next t ∧ t.pending = [] ∧ t.localTime = s.localTime + 1)

/-- Every command, in every state, answers a next state and leaves the queue of commands alone; a part without supply or with RST_N
low takes none but the four commands of supply and pin (entry 6). -/
def Obligations.EveryCommandCompletes : Prop :=
  (∀ (c : Instr) (s : State), ∃ t, exec c s = .next t ∧ t.pending = s.pending)
    ∧ (∀ (c : Instr) (s : State), s.live = false → c ≠ .powerOn → c ≠ .powerLoss → c ≠ .pinResetAssert →
    c ≠ .pinResetRelease → exec c s = .next s)

/-! ### Supply and reset -/

/-- POWER_ON, and PIN_RESET_RELEASE on a low pin of a part with its supply, give every block its power-on values, with READY alone
in the report queue; the cause is POWER or PIN. The pin, what the station boards hold, and the count of free samples (entry 24) are
outside the part. On a high pin
PIN_RESET_RELEASE does nothing; without supply the pin alone rises (entries 7, 8, 18). POWER_ON has this effect on a part that is
already on too (entry 43). The local time 0 (entry 2), the start time 0 (entry 19), the first scan and PWM period at the end of the
reset (entry 26), and the loss timer, gap timer and scan stamp at 0 (entry 32) are the model's choices. -/
def Obligations.PowerOnAndPinResetGivePowerOnValues : Prop :=
  (∀ s : State, exec .powerOn s = .next
    { State.reset with
      pending := s.pending
      draws := s.draws
      rstN := s.rstN
      drive := { State.reset.drive with latched := s.drive.latched } })
    ∧ (∀ s : State,
    (s.rstN = false → s.powered = true → exec .pinResetRelease s = .next
      { State.reset with
        pending := s.pending
        draws := s.draws
        play := { State.reset.play with
          reports := { State.reset.play.reports with records := [{ stamp := 0, body := .ready .pin }] } }
        drive := { State.reset.drive with latched := s.drive.latched } })
      ∧ (s.rstN = true → exec .pinResetRelease s = .next s)
      ∧ (s.rstN = false → s.powered = false → exec .pinResetRelease s = .next { s with rstN := true }))

/-- RST_N falling and the loss of power cut off the frame being sent and lose the frame being received. That the rest stands until
the part takes its power-on values is entry 6's choice, and the gap timer's 0 is entry 32's. -/
def Obligations.ResetLowAndPowerLossCutTheLine : Prop :=
  ∀ s : State,
    exec .pinResetAssert s = .next
        { s with rstN := false, link := { s.link with tx := .idle, rx := .hunting, gapTimer := 0 } }
      ∧ exec .powerLoss s = .next
        { s with powered := false, link := { s.link with tx := .idle, rx := .hunting, gapTimer := 0 } }

/-- The values after power-on that the spec gives; beside them the gap timer and the idle time the line asks for stand at 0
(entries 32, 34). -/
def Obligations.ResetHoldsPowerOnValues : Prop :=
  State.reset.play.timeline.state = .stopped ∧ State.reset.play.timeline.t = 0 ∧ State.reset.play.timeline.r = 0
    ∧ State.reset.play.timeline.source = .holdover ∧ State.reset.play.timeline.lastEdge = none
    ∧ State.reset.play.timeline.edgeRun = 0 ∧ State.reset.play.timeline.lock = .free
    ∧ State.reset.play.timeline.badAnchors = 0 ∧ State.reset.play.timeline.rate = 48000
    ∧ State.reset.play.timeline.tolerance = 4000 ∧ State.reset.play.timeline.pendingStart = none
    ∧ State.reset.play.grace = 250000 ∧ State.reset.play.rollGap = 300000
    ∧ State.reset.play.scoring = ⟨⟨3, 8⟩, ⟨2, 8⟩, ⟨1, 4⟩, ⟨0, 0⟩, ⟨0, -40⟩, ⟨0, -80⟩, ⟨3, 8⟩, ⟨0, -80⟩, ⟨0, -50⟩, ⟨0, 0⟩⟩
    ∧ State.reset.play.reports = ⟨[⟨0, .ready .power⟩], 0, 0, ⟨false, false, false, false⟩⟩
    ∧ State.reset.link = ⟨.hunting, 0, [], .idle, 0, 0, 0, 0, 0, 0, 0⟩
    ∧ (∀ i : StationId, (State.reset.play.station i).state = .idle ∧ (State.reset.play.station i).outcome = none
        ∧ (State.reset.play.station i).laneMask = none ∧ (State.reset.play.station i).autoplay = false
        ∧ (State.reset.play.station i).failEnable = false
        ∧ (State.reset.play.station i).feed = ⟨[], .unset, none, false, none, false⟩
        ∧ (State.reset.play.station i).judge = ⟨22500, 45000, 90000, 135000, 180000, 45000, 0⟩
        ∧ (State.reset.play.station i).tally = ⟨.all 0, 0, 0, 0, 0, 0, 0, 0, 0, 0, false, none⟩
        ∧ (∀ lane : PanelId, (State.reset.play.station i).holds.get lane = none
            ∧ (State.reset.play.station i).synth.get lane = ⟨false, none⟩
            ∧ (State.reset.play.lamps.get i).get lane = ⟨.off, false, 0⟩
            ∧ State.reset.panel i lane = ⟨.released, 0, false, ⟨600, 400, 2, 3, 20⟩⟩
            ∧ ∀ corner : Fin 4, (((State.reset.scanner.stations.get i).channels.get lane).get corner)
                = ⟨0, 0, false, true, 0, false, 0⟩)
        ∧ (State.reset.scanner.stations.get i).stamp = 0
        ∧ (∀ j : PanelId, (State.reset.scanner.stations.get i).loads.get j = 0)
        ∧ (State.reset.panelStation i).occupied = false ∧ (State.reset.panelStation i).occupancyTimer = 0
        ∧ (State.reset.panelStation i).occupancyAge = 30 ∧ (State.reset.panelStation i).armed = false
        ∧ (State.reset.panelStation i).comboLanes = 0 ∧ (State.reset.panelStation i).comboHold = 3
        ∧ (State.reset.panelStation i).comboAbort = false ∧ (State.reset.panelStation i).comboTimer = 0
        ∧ (State.reset.panelStation i).comboSpent = false)
    ∧ State.reset.scanner.learnPhase = 0 ∧ State.reset.scanner.blockPos = 0

/-- RESET_PLAY stops and clears the play state, moves the run stamps by the move of T to 0, clears presence, and keeps every
configuration, baseline, panel state and link counter. Demands and on-times
stand until the next period start (entry 17), and the stamp of a scan under way moves with T, held in its range (R131;
entry 22). -/
def Obligations.ResetPlayClearsPlayAndKeepsConfiguration : Prop :=
  ∀ (tag : Byte) (s : State), s.Ready →
    ∃ t : State, exec (.resetPlay tag) s = .next (t.answered 0x3F tag ⟨.ok, false, []⟩)
      ∧ t.play = { s.play with
          timeline := { s.play.timeline with
            state := .stopped, t := 0, r := 0, pendingStart := none, lock := .free, badAnchors := 0 }
          stations := t.play.stations
          lamps := t.play.lamps
          reports := { s.play.reports with records := [{ stamp := 0, body := .ready .command }] } }
      ∧ (∀ i : StationId,
          t.play.station i = { State.reset.play.station i with judge := (s.play.station i).judge }
            ∧ (∀ j : PanelId,
                (t.play.lamps.get i).get j = { (s.play.lamps.get i).get j with mode := .off }
                  ∧ t.panel i j = { s.panel i j with state := (s.panel i j).state.moveStamp (-s.play.timeline.t) })
            ∧ t.panelStation i = { s.panelStation i with
                panels := (t.panelStation i).panels, occupied := false, occupancyTimer := 0, armed := false })
      ∧ t.scanner = { s.scanner with
          scanStamp := if s.scanner.waiting.any id then
              max (-2147483648) (min 2147483647 (s.scanner.scanStamp - s.play.timeline.t))
            else s.scanner.scanStamp }
      ∧ { t with play := s.play, panels := s.panels, scanner := s.scanner } = s

/-! ### The line in -/

/-- The receiver's states, byte by byte, up to the last byte of a frame. That LENGTH does not restart the gap timer is entry 16's
reading, and its 0 while HUNTING is entry 32's. -/
def Obligations.ReceiverTakesTheBytesOfAFrame : Prop :=
  ∀ (s : State) (b : Byte), s.live = true →
    (s.link.rx = .hunting → b ≠ 0xC3 → exec (.rxByte b) s = .next s)
      ∧ (s.link.rx = .hunting → b = 0xC3 →
          exec (.rxByte b) s = .next { s with link := { s.link with rx := .inFrame [], gapTimer := 0 } })
      ∧ (s.link.rx = .inFrame [] → b.toNat ≤ 248 →
          exec (.rxByte b) s = .next { s with link := { s.link with rx := .inFrame [b] } })
      ∧ (s.link.rx = .inFrame [] → 248 < b.toNat →
          exec (.rxByte b) s = .next { s with link := { s.link with
            rx := .hunting, gapTimer := 0, lengthErrors := min 65535 (s.link.lengthErrors + 1) } })
      ∧ (∀ len rest, s.link.rx = .inFrame (len :: rest) → rest.length + 1 < len.toNat + 4 →
          exec (.rxByte b) s = .next { s with link := { s.link with rx := .inFrame (len :: rest ++ [b]), gapTimer := 0 } })

/-- The bytes of a request's frame, SYNC first, given one after another to a receiver that hunts, have the very effect of the
request's own command. -/
def Obligations.WholeFrameIsExecutedAsItsRequest : Prop :=
  ∀ (c : Instr) (f : RequestFrame) (s : State), s.live = true → s.link.rx = .hunting → c.wellFormed = true →
    requestFrame c = some f →
      receive f.bytes s = exec c { s with link := { s.link with gapTimer := 0 } }

/-- A complete frame whose check does not match, and a frame whose gap timer runs out, are dropped and counted; nothing else
changes. That the GAP_TIMEOUT row is taken at any value of the gap timer is entry 4's choice, that it does nothing in HUNTING
entry 5's, and the gap timer's 0 after a frame entry 32's. -/
def Obligations.BrokenFramesAreDroppedAndCounted : Prop :=
  (∀ (s : State) (len : Byte) (rest : List Byte) (b : Byte), s.live = true → s.link.rx = .inFrame (len :: rest) →
    rest.length + 1 = len.toNat + 4 →
    (rest ++ [b]).drop (len.toNat + 2) ≠ crcBytes (len :: (rest ++ [b]).take (len.toNat + 2)) →
      exec (.rxByte b) s = .next { s with link := { s.link with
        rx := .hunting, gapTimer := 0, crcErrors := min 65535 (s.link.crcErrors + 1) } })
    ∧ (∀ s : State, s.live = true →
    (∀ bytes, s.link.rx = .inFrame bytes →
        exec .gapTimeout s = .next { s with link := { s.link with
          rx := .hunting, gapTimer := 0, gapTimeouts := min 65535 (s.link.gapTimeouts + 1) } })
      ∧ (s.link.rx = .hunting → exec .gapTimeout s = .next s))

/-- A request taken while the reply queue holds 8 replies is counted as accepted and lost to overrun. A good frame whose KIND is no
request is answered UNKNOWN; one whose LENGTH its kind does not admit is answered BAD_LENGTH and counted. None of them changes
any other state. -/
def Obligations.FramesNotExecutedChangeNoOwner : Prop :=
  (∀ (c : Instr) (f : RequestFrame) (s : State), s.live = true → requestFrame c = some f →
    8 ≤ s.link.replies.length →
      exec c s = .next { s with link := { s.link with
        accepted := min 65535 (s.link.accepted + 1), overruns := min 65535 (s.link.overruns + 1) } })
    ∧ (∀ (kind tag : Byte) (payload : List Byte) (s : State), s.Ready → s.link.rx = .hunting → payload.length ≤ 248 →
    ((∀ row ∈ catalogue, row.kind ≠ kind.toNat) →
        receive (frame kind tag payload) s
          = .next (State.answered { s with link := { s.link with gapTimer := 0 } } kind tag ⟨.unknown, false, []⟩))
      ∧ (∀ row ∈ catalogue, row.kind = kind.toNat → (payload.length < row.least ∨ row.most < payload.length) →
          receive (frame kind tag payload) s
            = .next (State.answered
                { s with link := { s.link with
                    gapTimer := 0, lengthErrors := min 65535 (s.link.lengthErrors + 1) } }
                kind tag ⟨.badLength, false, if row.kind = 0x11 then [0, 0, 0, 0, 0, 0, 0, 0, 255] else []⟩)))

/-! ### The line out -/

/-- An IDLE transmitter, and a transmitter at the end of a frame, choose by the table of R174. A frame's SYNC waits out what is
left of the bit time of idle line, twelve crystal periods, that the frame before it asks for (entry 34). That TX_FRAME_END ends a
frame with any bits left is entry 4's choice, and that a row not due changes nothing entry 5's. TXD carries each byte as a low start
bit, its eight bits and a high stop bit, and is high else; that the least significant bit goes first, and the level without supply,
are entry 28's. -/
def Obligations.TransmitterChoosesByTheTable : Prop :=
  ∀ s : State, s.live = true →
    (s.link.tx = .idle → ∃ t, exec .txFrameBegin s = .next t ∧ s.Chose s.link.rest t)
      ∧ (∀ bytes left, s.link.tx = .sending bytes left → ∃ t, exec .txFrameEnd s = .next t ∧ s.Chose 12 t)
      ∧ (∀ bytes left, s.link.tx = .sending bytes left → exec .txFrameBegin s = .next s)
      ∧ (s.link.tx = .idle → exec .txFrameEnd s = .next s)
      ∧ (s.link.tx = .idle → s.pinTxd = true)
      ∧ (∀ bytes left, s.link.tx = .sending bytes left → 120 * bytes.length < left → s.pinTxd = true)
      ∧ (∀ bytes left b (k bit past : Nat), s.link.tx = .sending bytes left → bytes[k]? = some b → bit < 10 → past < 12 →
          left + 120 * k + 12 * bit + past = 120 * bytes.length →
          s.pinTxd = if bit = 0 then false else if bit = 9 then true else b.getLsbD (bit - 1))
      ∧ (∀ u : State, u.live = false → u.pinTxd = true)

/-! ### The report queue -/

/-- PRESS and RELEASE are of the low class and no other report is. A record joins a queue that has room; a full queue discards a
low-class record, or removes its oldest low-class record, or its oldest record, for a high-class one; each loss is counted twice. -/
def Obligations.FullReportQueueDisplacesByClass : Prop :=
  (∀ body : ReportBody, body.isLow = true ↔
      ∃ (i : StationId) (j : PanelId) (stamp : Int), body = .press i j stamp ∨ body = .release i j stamp)
    ∧ ∀ (q : ReportQueue) (r : Report),
    (q.records.length < 96 → q.push r = { q with records := q.records ++ [r] })
      ∧ (96 ≤ q.records.length → r.body.isLow = true →
          q.push r = { q with
            pendingLost := min 255 (q.pendingLost + 1), reportsLost := min 65535 (q.reportsLost + 1) })
      ∧ (∀ front x back, 96 ≤ q.records.length → r.body.isLow = false → q.records = front ++ x :: back →
          (∀ y ∈ front, y.body.isLow = false) → x.body.isLow = true →
          q.push r = { q with
            records := front ++ back ++ [r], pendingLost := min 255 (q.pendingLost + 1)
            reportsLost := min 65535 (q.reportsLost + 1) })
      ∧ (∀ x back, 96 ≤ q.records.length → r.body.isLow = false → q.records = x :: back →
          (∀ y ∈ q.records, y.body.isLow = false) →
          q.push r = { q with
            records := back ++ [r], pendingLost := min 255 (q.pendingLost + 1)
            reportsLost := min 65535 (q.reportsLost + 1) })

/-! ### Requests as a whole -/

/-- A request whose reply has any status but OK has changed nothing outside the link port. -/
def Obligations.RefusedRequestChangesOnlyTheLink : Prop :=
  ∀ (c : Instr) (f : RequestFrame) (s t : State) (r : Reply), requestFrame c = some f → exec c s = .next t →
    t.link.replies = s.link.replies ++ [r] → r.answer.status ≠ .ok → { t with link := s.link } = s

/-- The four requests that only read change nothing but the link port's own reply and count, and answer what stands: GET_STATUS the
section asked for, GET_TALLY the tally, GET_RESULT the record of a FINISHED station, GET_SENSORS the values of the last completed
scan. A station above 3 is refused BAD_ARG, but in section 0, and a section above 3 with any station. The echo of section 0's
station byte is the model's reading (entry 15), and so are the forms of absent values in the sections (entry 14) and that the bytes
of GET_RESULT carry no U (entry 36). That bit 15 of GET_SENSORS shows the new health between a block's end and the next scan is the
model's choice (entry 39). -/
def Obligations.ReadingRequestsChangeNothing : Prop :=
  (∀ (tag b : Byte) (i : StationId) (s : State), s.Ready → b.toNat = i.val →
    exec (.getTally tag b) s = .next (s.answered 0x31 tag
        ⟨.ok, false, (s.play.station i).tally.counts.toList.flatMap (leBytes 2)
          ++ leBytes 2 (s.play.station i).tally.voids ++ leBytes 2 (s.play.station i).tally.strays
          ++ leBytes 2 (s.play.station i).tally.discarded ++ leBytes 4 (s.play.station i).tally.points
          ++ leBytes 4 (s.play.station i).tally.units ++ leBytes 2 (s.play.station i).tally.combo
          ++ leBytes 2 (s.play.station i).tally.maxCombo ++ leBytes 2 (s.play.station i).tally.life
          ++ leBytes 4 (s.play.station i).tally.score ++ [flagByte (s.play.station i).tally.overUnits]⟩)
      ∧ (∀ record, (s.play.station i).state = .finished → (s.play.station i).tally.record = some record →
          exec (.getResult tag b) s = .next (s.answered 0x32 tag ⟨.ok, false, record.bytes i⟩))
      ∧ ((s.play.station i).state ≠ .finished →
          exec (.getResult tag b) s = .next (s.answered 0x32 tag ⟨.busy, false, []⟩))
      ∧ exec (.getSensors tag b) s = .next (s.answered 0x33 tag
          ⟨.ok, false, b :: leInt 4 (s.scanner.stations.get i).stamp
            ++ (panelIds.flatMap fun j => corners.flatMap fun k =>
              let c := ((s.scanner.stations.get i).channels.get j).get k
              leBytes 2 (c.raw + if c.faulty then 32768 else 0) ++ leBytes 2 c.b16 ++ leBytes 2 c.load)
            ++ panelIds.flatMap fun j => leBytes 2 ((s.scanner.stations.get i).loads.get j)⟩)
      ∧ ∀ sect : Byte, 1 ≤ sect.toNat → sect.toNat ≤ 3 → exec (.getStatus tag sect b) s
          = .next (s.answered 0x30 tag ⟨.ok, false, sect :: b ::
              if sect.toNat = 1 then stationSection s i
              else if sect.toNat = 2 then panelIds.flatMap fun j => (s.panel i j).bytes
              else panelIds.flatMap fun j => ((s.play.lamps.get i).get j).bytes⟩))
    ∧ (∀ (tag b sect : Byte) (s : State), s.Ready →
      (sect.toNat = 0 → exec (.getStatus tag sect b) s
          = .next (s.answered 0x30 tag ⟨.ok, false, sect :: b :: partSection s⟩))
        ∧ (3 < sect.toNat → exec (.getStatus tag sect b) s = .next (s.answered 0x30 tag ⟨.badArg, false, []⟩))
        ∧ (3 < b.toNat →
          exec (.getTally tag b) s = .next (s.answered 0x31 tag ⟨.badArg, false, []⟩)
            ∧ exec (.getResult tag b) s = .next (s.answered 0x32 tag ⟨.badArg, false, []⟩)
            ∧ exec (.getSensors tag b) s = .next (s.answered 0x33 tag ⟨.badArg, false, []⟩)
            ∧ (1 ≤ sect.toNat → exec (.getStatus tag sect b) s = .next (s.answered 0x30 tag ⟨.badArg, false, []⟩))))

/-- GET_FAULTS answers every latch and clears them all, and changes nothing else of a channel or panel. -/
def Obligations.GetFaultsReadsAndClearsTheLatches : Prop :=
  ∀ (tag : Byte) (s : State), s.Ready →
    ∃ t : State, exec (.getFaults tag) s = .next (t.answered 0x34 tag
        ⟨.ok, false, stationIds.flatMap fun i => faultBytes (s.scanner.stations.get i) (s.panels.get i)⟩)
      ∧ (∀ (i : StationId) (j : PanelId) (corner : Fin 4),
          (((t.scanner.stations.get i).channels.get j).get corner)
              = { (((s.scanner.stations.get i).channels.get j).get corner) with latch := false }
            ∧ t.panel i j = { s.panel i j with stuckLatch := false })
      ∧ (∀ i : StationId,
          { t.scanner.stations.get i with channels := (s.scanner.stations.get i).channels } = s.scanner.stations.get i
            ∧ { t.panelStation i with panels := (s.panelStation i).panels } = s.panelStation i)
      ∧ { t with scanner := { t.scanner with stations := s.scanner.stations }, panels := s.panels } = s

/-- GET_LINK_COUNTS returns the six counters, its own frame counted, and sets all six to 0. -/
def Obligations.GetLinkCountsReadsAndClears : Prop :=
  ∀ (tag : Byte) (s : State), s.Ready →
    exec (.getLinkCounts tag) s = .next { s with
      play := { s.play with reports := { s.play.reports with reportsLost := 0 } }
      link := { s.link with
        accepted := 0, crcErrors := 0, lengthErrors := 0, gapTimeouts := 0, overruns := 0
        replies := s.link.replies ++ [{ kind := 0x35, tag := tag, answer := ⟨.ok, false,
          leBytes 2 (min 65535 (s.link.accepted + 1)) ++ leBytes 2 s.link.crcErrors ++ leBytes 2 s.link.lengthErrors
            ++ leBytes 2 s.link.gapTimeouts ++ leBytes 2 s.link.overruns
            ++ leBytes 2 s.play.reports.reportsLost⟩ }] } }

/-! ### Settings -/

/-- CONFIG_TIMING: refused BUSY unless STOPPED, refused BAD_ARG for a rate out of range, else stored with the tolerance
clamped, R and the edge run count at 0. -/
def Obligations.ConfigTimingStoresRateAndTolerance : Prop :=
  ∀ (tag : Byte) (rate tol : BitVec 32) (s : State), s.Ready →
    (s.play.timeline.state ≠ .stopped →
        exec (.configTiming tag rate tol) s = .next (s.answered 0x01 tag ⟨.busy, false, []⟩))
      ∧ (s.play.timeline.state = .stopped → (rate.toNat < 8000 ∨ 192000 < rate.toNat) →
          exec (.configTiming tag rate tol) s = .next (s.answered 0x01 tag ⟨.badArg, false, []⟩))
      ∧ (s.play.timeline.state = .stopped → 8000 ≤ rate.toNat → rate.toNat ≤ 192000 →
          exec (.configTiming tag rate tol) s = .next (State.answered
            { s with play := { s.play with timeline := { s.play.timeline with
              rate := rate.toNat, tolerance := max 500 (min 100000 tol.toNat), r := 0, edgeRun := 0 } } }
            0x01 tag
            ⟨.ok, decide (tol.toNat < 500 ∨ 100000 < tol.toNat),
              leBytes 4 rate.toNat ++ leBytes 4 (max 500 (min 100000 tol.toNat))⟩))

/-- CONFIG_JUDGE: its checks in order, and the stored settings for one station or all four. That a BAD_WINDOWS reply carries its
clamped flag clear though values were clamped before the check is entry 13's reading. -/
def Obligations.ConfigJudgeStoresTheWindows : Prop :=
  ∀ (tag sel : Byte) (f : JudgeFields) (s : State), s.Ready →
    let c : JudgeConfig :=
      { w1 := max 1000 (min 250000 f.w1.toNat), w2 := max 1000 (min 250000 f.w2.toNat)
        w3 := max 1000 (min 250000 f.w3.toNat), w4 := max 1000 (min 250000 f.w4.toNat)
        w5 := max 1000 (min 250000 f.w5.toNat), wm := max 1000 (min 250000 f.wm.toNat)
        offset := max (-200000) (min 200000 f.offset.toInt) }
    (3 < sel.toNat → sel ≠ 0xFF → exec (.configJudge tag sel f) s = .next (s.answered 0x02 tag ⟨.badArg, false, []⟩))
      ∧ ((sel.toNat ≤ 3 ∨ sel = 0xFF) → s.play.timeline.state ≠ .stopped →
          exec (.configJudge tag sel f) s = .next (s.answered 0x02 tag ⟨.busy, false, []⟩))
      ∧ ((sel.toNat ≤ 3 ∨ sel = 0xFF) → s.play.timeline.state = .stopped →
          ¬ (c.w1 < c.w2 ∧ c.w2 < c.w3 ∧ c.w3 < c.w4 ∧ c.w4 < c.w5) →
          exec (.configJudge tag sel f) s = .next (s.answered 0x02 tag ⟨.badWindows, false, []⟩))
      ∧ ((sel.toNat ≤ 3 ∨ sel = 0xFF) → s.play.timeline.state = .stopped →
          c.w1 < c.w2 → c.w2 < c.w3 → c.w3 < c.w4 → c.w4 < c.w5 →
          ∃ t : State, exec (.configJudge tag sel f) s = .next (t.answered 0x02 tag
              ⟨.ok, decide (c ≠ ⟨f.w1.toNat, f.w2.toNat, f.w3.toNat, f.w4.toNat, f.w5.toNat, f.wm.toNat, f.offset.toInt⟩),
                leBytes 4 c.w1 ++ leBytes 4 c.w2 ++ leBytes 4 c.w3 ++ leBytes 4 c.w4 ++ leBytes 4 c.w5 ++ leBytes 4 c.wm
                  ++ leInt 4 c.offset⟩)
            ∧ (∀ i : StationId, t.play.station i
                = if sel = 0xFF ∨ sel.toNat = i.val then { s.play.station i with judge := c } else s.play.station i)
            ∧ { t with play := { t.play with stations := s.play.stations } } = s)

/-- CONFIG_HOLDS and CONFIG_SCORING: refused BUSY unless STOPPED, else stored after clamping. -/
def Obligations.ConfigHoldsAndScoringStore : Prop :=
  ∀ (tag : Byte) (grace gap : BitVec 32) (rows : PerResult ScoreField) (s : State), s.Ready →
    (s.play.timeline.state ≠ .stopped →
        exec (.configHolds tag grace gap) s = .next (s.answered 0x03 tag ⟨.busy, false, []⟩)
          ∧ exec (.configScoring tag rows) s = .next (s.answered 0x04 tag ⟨.busy, false, []⟩))
      ∧ (s.play.timeline.state = .stopped →
          exec (.configHolds tag grace gap) s = .next (State.answered
              { s with play := { s.play with
                grace := min 500000 grace.toNat, rollGap := max 50000 (min 1000000 gap.toNat) } }
              0x03 tag
              ⟨.ok, decide (500000 < grace.toNat ∨ gap.toNat < 50000 ∨ 1000000 < gap.toNat),
                leBytes 4 (min 500000 grace.toNat) ++ leBytes 4 (max 50000 (min 1000000 gap.toNat))⟩)
            ∧ ∃ t : State, exec (.configScoring tag rows) s = .next (t.answered 0x04 tag
                ⟨.ok, rows.toList.any fun f =>
                    decide (1000 < f.points.toNat ∨ f.life.toInt < -1000 ∨ 1000 < f.life.toInt),
                  t.play.scoring.toList.flatMap fun row => leBytes 2 row.points ++ leInt 2 row.life⟩)
              ∧ (∀ r : Result, t.play.scoring.get r
                  = { points := min 1000 (rows.get r).points.toNat
                      life := max (-1000) (min 1000 (rows.get r).life.toInt) })
              ∧ { t with play := { t.play with scoring := s.play.scoring } } = s)

/-- CONFIG_PANELS: the named panels take the clamped settings, T_off lowered below T_on, and the named stations the occupancy
age; runs and timers in progress are kept. The values that the reply carries for an empty panel set are entry 42's. -/
def Obligations.ConfigPanelsStoresTheThresholds : Prop :=
  ∀ (tag : Byte) (f : PanelFields) (s : State), s.Ready →
    let tOn := max 1 (min 16380 f.tOn.toNat)
    let tOff := if tOn ≤ min 16379 f.tOff.toNat then tOn - 1 else min 16379 f.tOff.toNat
    let c : PanelConfig :=
      { tOn := tOn, tOff := tOff, dOn := max 1 (min 8 f.dOn.toNat), dOff := max 1 (min 8 f.dOff.toNat)
        stuckTime := max 1 (min 120 f.stuckTime.toNat) }
    let age := min 600 f.occupancyAge.toNat
    (3 < f.selector.toNat → f.selector ≠ 0xFF →
        exec (.configPanels tag f) s = .next (s.answered 0x05 tag ⟨.badArg, false, []⟩))
      ∧ ((f.selector.toNat ≤ 3 ∨ f.selector = 0xFF) →
          ∃ t : State, exec (.configPanels tag f) s = .next (t.answered 0x05 tag
              ⟨.ok, decide (c ≠ ⟨f.tOn.toNat, f.tOff.toNat, f.dOn.toNat, f.dOff.toNat, f.stuckTime.toNat⟩
                  ∨ age ≠ f.occupancyAge.toNat),
                leBytes 2 c.tOn ++ leBytes 2 c.tOff ++ [codeByte c.dOn, codeByte c.dOff, codeByte c.stuckTime]
                  ++ leBytes 2 age⟩)
            ∧ (∀ i : StationId,
                ((f.selector = 0xFF ∨ f.selector.toNat = i.val) →
                    { t.panelStation i with panels := (s.panelStation i).panels }
                        = { s.panelStation i with occupancyAge := age }
                      ∧ ∀ j : PanelId, t.panel i j
                          = if f.panels.getLsbD j.val then { s.panel i j with config := c } else s.panel i j)
                  ∧ (¬ (f.selector = 0xFF ∨ f.selector.toNat = i.val) → t.panelStation i = s.panelStation i))
            ∧ { t with panels := s.panels } = s)

/-- CONFIG_COMBO: the named stations take the lane set, the clamped hold time and the abort flag, and their combo is READY with
its timer at 0. That bits 1 to 7 of the flag byte are ignored is entry 42's choice. -/
def Obligations.ConfigComboMakesTheComboReady : Prop :=
  ∀ (tag : Byte) (f : ComboFields) (s : State), s.Ready →
    let hold := max 1 (min 10 f.holdTime.toNat)
    (3 < f.selector.toNat → f.selector ≠ 0xFF →
        exec (.configCombo tag f) s = .next (s.answered 0x06 tag ⟨.badArg, false, []⟩))
      ∧ ((f.selector.toNat ≤ 3 ∨ f.selector = 0xFF) →
          ∃ t : State, exec (.configCombo tag f) s = .next (t.answered 0x06 tag
              ⟨.ok, decide (hold ≠ f.holdTime.toNat),
                leBytes 2 (f.lanes.toNat % 512) ++ [codeByte hold, if f.flags.getLsbD 0 then 1 else 0]⟩)
            ∧ (∀ i : StationId,
                t.panelStation i = if f.selector = 0xFF ∨ f.selector.toNat = i.val then
                    { s.panelStation i with
                      comboLanes := f.lanes.setWidth 9, comboHold := hold, comboAbort := f.flags.getLsbD 0
                      comboTimer := 0, comboSpent := false }
                  else s.panelStation i)
            ∧ { t with panels := s.panels } = s)

/-- CONFIG_REPORTS sets the four press-report enables; ARM_PRESENCE sets a station's arm and answers its occupancy;
SEED_BASELINE sets every seed of a station that is not in play, and is refused BUSY in play. -/
def Obligations.StationSwitchesAreSet : Prop :=
  ∀ (tag b : Byte) (s : State), s.Ready →
    exec (.configReports tag b) s = .next (State.answered
        { s with play := { s.play with reports := { s.play.reports with
          pressEnables := ⟨b.getLsbD 0, b.getLsbD 1, b.getLsbD 2, b.getLsbD 3⟩ } } }
        0x07 tag ⟨.ok, false, [b &&& 0x0F]⟩)
      ∧ (3 < b.toNat →
          exec (.armPresence tag b) s = .next (s.answered 0x15 tag ⟨.badArg, false, []⟩)
            ∧ exec (.seedBaseline tag b) s = .next (s.answered 0x16 tag ⟨.badArg, false, []⟩))
      ∧ ∀ i : StationId, b.toNat = i.val →
          exec (.armPresence tag b) s = .next (State.answered
              { s with panels := s.panels.set i { s.panelStation i with armed := true } }
              0x15 tag ⟨.ok, false, [if (s.panelStation i).occupied then 1 else 0]⟩)
            ∧ (((s.play.station i).state = .running ∨ (s.play.station i).state = .draining) →
                exec (.seedBaseline tag b) s = .next (s.answered 0x16 tag ⟨.busy, false, []⟩))
            ∧ ((s.play.station i).state ≠ .running → (s.play.station i).state ≠ .draining →
                ∃ t : State, exec (.seedBaseline tag b) s = .next (t.answered 0x16 tag ⟨.ok, false, []⟩)
                  ∧ (∀ (k : StationId) (j : PanelId) (corner : Fin 4),
                      (((t.scanner.stations.get k).channels.get j).get corner)
                        = if k = i then
                            { (((s.scanner.stations.get k).channels.get j).get corner) with seedPending := true }
                          else (((s.scanner.stations.get k).channels.get j).get corner))
                  ∧ (∀ k : StationId,
                      { t.scanner.stations.get k with channels := (s.scanner.stations.get k).channels }
                        = s.scanner.stations.get k)
                  ∧ { t with scanner := { t.scanner with stations := s.scanner.stations } } = s)

/-- SET_LAMPS: a selector or mode code that is none is refused BAD_ARG; else each named lamp takes the mode with its clamped
values, a FLASH with no flash under way, and its demand and on-time stand until the next period
start (that they stand is entry 17). The reply carries the mode, its level and its settings; that those the mode does not have
are sent as absent is entry 14's reading, and that an empty panel set is answered the request's clamped values entry 42's choice. -/
def Obligations.SetLampsGivesTheNamedLampsTheMode : Prop :=
  ∀ (tag : Byte) (f : LampFields) (s : State), s.Ready →
    let v := min 15 f.level.toNat
    let d := max 10 (min 1000 f.duration.toNat)
    let p := max 100000 (min 2000000 f.period.toNat)
    let q := max 1 (min 4 f.duty.toNat)
    let mode : LampMode :=
      if f.mode = 0 then .off else if f.mode = 1 then .steady v else if f.mode = 2 then .follow v
      else if f.mode = 3 then .flash v d (f.results.setWidth 10) 0 else .beat v p q f.phase.toInt
    let clamped : Bool :=
      decide (f.mode ≠ 0 ∧ v ≠ f.level.toNat ∨ f.mode = 3 ∧ d ≠ f.duration.toNat
        ∨ f.mode = 4 ∧ (p ≠ f.period.toNat ∨ q ≠ f.duty.toNat))
    ((4 < f.mode.toNat ∨ (3 < f.selector.toNat ∧ f.selector ≠ 0xFF)) →
        exec (.setLamps tag f) s = .next (s.answered 0x08 tag ⟨.badArg, false, []⟩))
      ∧ (f.mode.toNat ≤ 4 → (f.selector.toNat ≤ 3 ∨ f.selector = 0xFF) →
          ∃ t : State,
            exec (.setLamps tag f) s = .next (t.answered 0x08 tag
                ⟨.ok, clamped, [f.mode] ++ mode.levelBytes ++ mode.settingBytes⟩)
              ∧ (∀ (i : StationId) (j : PanelId), (t.play.lamps.get i).get j
                  = if (f.selector = 0xFF ∨ f.selector.toNat = i.val) ∧ f.panels.getLsbD j.val = true then
                      { (s.play.lamps.get i).get j with mode := mode }
                    else (s.play.lamps.get i).get j)
              ∧ { t with play := { t.play with lamps := s.play.lamps } } = s)

/-! ### Station control and note queue -/

/-- LOAD_STATION: its checks in order, and the station it prepares, with its STATION report. -/
def Obligations.LoadStationPreparesAnIdleStation : Prop :=
  ∀ (tag : Byte) (f : LoadFields) (s : State), s.Ready →
    (3 < f.station.toNat → exec (.loadStation tag f) s = .next (s.answered 0x10 tag ⟨.badArg, false, []⟩))
      ∧ ∀ i : StationId, f.station.toNat = i.val →
          (((s.play.station i).state ≠ .idle ∨ s.play.timeline.state ≠ .stopped) →
              exec (.loadStation tag f) s = .next (s.answered 0x10 tag ⟨.busy, false, []⟩))
            ∧ ((s.play.station i).state = .idle → s.play.timeline.state = .stopped → f.mask.toNat % 512 = 0 →
                exec (.loadStation tag f) s = .next (s.answered 0x10 tag ⟨.badArg, false, []⟩))
            ∧ ((s.play.station i).state = .idle → s.play.timeline.state = .stopped → f.mask.toNat % 512 ≠ 0 →
                exec (.loadStation tag f) s = .next (State.answered
                  { s with play := { s.play with
                    stations := s.play.stations.set i { State.reset.play.station i with
                      state := .loaded
                      laneMask := some (f.mask.setWidth 9)
                      failEnable := f.flags.getLsbD 0
                      autoplay := f.flags.getLsbD 1
                      judge := (s.play.station i).judge
                      tally := { (State.reset.play.station i).tally with
                        units := min 1000000 f.units.toNat, life := max 1 (min 1000 f.startLife.toNat) } }
                    reports := s.play.reports.push { stamp := s.play.timeline.t, body := .station i .loaded none } } }
                  0x10 tag
                  ⟨.ok, decide (1000000 < f.units.toNat ∨ f.startLife.toNat = 0 ∨ 1000 < f.startLife.toNat), []⟩))

/-- NOTE_BLOCK, whatever bits 9 to 15 of its lane fields are. Refused, it changes nothing but the length-error count of a BAD_LENGTH, and its reply carries the fields of R29:
a station above 3, a station that takes no notes, a count outside 1 to 16 or records that do not end with the payload, the first
malformed note, the first note outside the mask, the first note out of order, a covered-until time below the last note, a block
larger than the free count, in this order. Taken by a LOADED station, its notes join the tail in order; by a RUNNING station, each
note whose close T has reached is VOID with its JUDGE report, the others join, and the deadlines they have already reached are
taken by their rows before the tail time, H and the starved flag follow. This order, the VOID reports of the whole block first, then
the joined deadlines, then those three, is the model's choice (entry 11); so is the taking of what a synthetic press made at
joining itself sets at or below T (entry 44), and that the three are still set where such a deadline fails the station (entry
41). The bound on the deadlines is entry 27's. The RUNNING form is stated where no starvation test is due. -/
def Obligations.NoteBlockJoinsALoadedStation : Prop :=
  ∀ (tag station : Byte) (covered : Int) (sent : List (RawNote × BitVec 7)) (s : State), s.Ready →
    -2147483648 ≤ covered → covered ≤ 2147483647 →
    let notes := sent.map Prod.fst
    (∀ n ∈ notes, -2147483648 ≤ n.time ∧ n.time ≤ 2147483647 ∧ -2147483648 ≤ n.endTime ∧ n.endTime ≤ 2147483647
      ∧ n.code ≤ 255) →
    let payload := blockPayload station covered sent
    let good (n : RawNote) : Bool := decide
      (n.code ≤ 3 ∧ 1 ≤ (LaneSet.lanes n.lanes).length ∧ (n.code ≠ 0 → (LaneSet.lanes n.lanes).length = 1)
        ∧ ((n.code = 1 ∨ n.code = 2) → n.time < n.endTime))
    ((15 ≤ payload.length ∧ payload.length ≤ 214) → 3 < station.toNat →
        exec (.noteBlock tag payload) s
          = .next (s.answered 0x11 tag ⟨.badArg, false, [0, 0, 0, 0, 0, 0, 0, 0, 255]⟩))
      ∧ ∀ i : StationId, station.toNat = i.val →
        let st := s.play.station i
        let f := st.feed
        let inside (n : RawNote) : Bool := decide ((n.lanes &&& ~~~ st.mask) = 0)
        let from_ (b : Option Int) (n : RawNote) : Bool :=
          (b.all fun t => decide (t ≤ n.time)) && match f.horizon with
            | .value h => decide (h ≤ n.time)
            | _ => true
        let refusal (status : Status) (index : Nat) : Answer :=
          ⟨status, false, [station, codeByte (192 - f.queue.length)] ++ f.horizon.bytes ++ [0, codeByte index]⟩
        let refused (status : Status) (index : Nat) : Prop :=
          exec (.noteBlock tag payload) s = .next (s.answered 0x11 tag (refusal status index))
        let takes : Prop := (st.state = .loaded ∨ st.state = .running) ∧ f.chartComplete = false
        let rising : Prop := notes.Pairwise fun a b => a.time ≤ b.time
        ((15 ≤ payload.length ∧ payload.length ≤ 214) → ¬ takes → refused .busy 255)
          ∧ (∀ count : Byte, (15 ≤ payload.length ∧ payload.length ≤ 214) → takes →
            (count.toNat = 0 ∨ 16 < count.toNat ∨ count.toNat ≠ notes.length) →
              exec (.noteBlock tag (payload.set 1 count)) s = .next (State.answered
                { s with link := { s.link with lengthErrors := min 65535 (s.link.lengthErrors + 1) } }
                0x11 tag (refusal .badLength 255)))
          ∧ (∀ (kept : Nat) (more : List Byte), 1 ≤ notes.length → notes.length ≤ 16 → takes →
            ((kept < payload.length ∧ more = []) ∨ (kept = payload.length ∧ more ≠ [])) →
            15 ≤ (payload.take kept ++ more).length → (payload.take kept ++ more).length ≤ 214 →
              exec (.noteBlock tag (payload.take kept ++ more)) s = .next (State.answered
                { s with link := { s.link with lengthErrors := min 65535 (s.link.lengthErrors + 1) } }
                0x11 tag (refusal .badLength 255)))
          ∧ (1 ≤ notes.length → notes.length ≤ 16 → takes →
            (∀ front n back, notes = front ++ n :: back → front.all good = true → good n = false →
                refused .badNote front.length)
              ∧ (∀ front n back, notes = front ++ n :: back → notes.all good = true → front.all inside = true →
                inside n = false → refused .badLane front.length)
              ∧ (notes.all good = true → notes.all inside = true →
                (∀ front n back, notes = front ++ n :: back → front.Pairwise (fun a b => a.time ≤ b.time) →
                    front.all (from_ f.tailTime) = true →
                    from_ (if front = [] then f.tailTime else front.getLast?.map RawNote.time) n = false →
                    refused .order front.length)
                  ∧ (rising → notes.all (from_ f.tailTime) = true →
                    ∀ last, notes.getLast? = some last →
                      (covered < last.time → refused .order 16)
                        ∧ (last.time ≤ covered → 192 < notes.length + f.queue.length → refused .full 255)
                        ∧ (last.time ≤ covered → notes.length + f.queue.length ≤ 192 →
                          let record (n : RawNote) : NoteRecord :=
                            { id := n.id, time := n.time
                              kind := if n.code = 0 then .tap else if n.code = 1 then .hold n.endTime
                                else if n.code = 2 then .roll n.endTime else .mine
                              lanes := n.lanes, laneHits := [], touched := false, checkTaken := false
                              pressTaken := false }
                          let now := s.play.timeline.t
                          let horizon : Horizon := match f.horizon with
                            | .unset => .value covered
                            | .value h => .value (max h covered)
                            | .unbounded => .unbounded
                          let ahead : Bool := match horizon with
                            | .unset => false
                            | .value h => decide (now < h)
                            | .unbounded => true
                          let late (n : RawNote) : Bool := decide
                            (n.time + st.judge.offset + (if n.code = 3 then st.judge.wm else st.judge.w5) + 2000 ≤ now)
                          let sealed (u : State) : State :=
                            { u with play := { u.play with stations := u.play.stations.set i { u.play.station i with
                              feed := { (u.play.station i).feed with
                                tailTime := some last.time, horizon := horizon, starved := f.starved && !ahead } } } }
                          let answer (u : State) (voided : Nat) : State := u.answered 0x11 tag
                            ⟨.ok, false, [station, codeByte (192 - (u.play.station i).feed.queue.length)]
                              ++ horizon.bytes ++ [codeByte voided, 255]⟩
                          let joined (ns : List RawNote) (t : Tally) (told : List Report) : State :=
                            { s with play := { s.play with
                              stations := s.play.stations.set i { st with
                                tally := t, feed := { f with queue := f.queue ++ ns.map record } }
                              reports := s.play.reports.pushAll told } }
                          (st.state = .loaded →
                              exec (.noteBlock tag payload) s
                                = .next (answer (sealed (joined notes st.tally [])) 0))
                            ∧ (st.state = .running →
                              (f.starved = true ∨ f.horizon = .unbounded ∨ ∃ h, f.horizon = .value h ∧ now < h) →
                              let told := (notes.filter late).map fun n : RawNote => (⟨now, .judge i n.id n.lanes .void
                                st.autoplay false st.tally.overUnits st.tally.combo st.tally.life st.tally.score none⟩ : Report)
                              let voids := min 65535 (st.tally.voids + (notes.filter late).length)
                              let u := joined (notes.filter fun n => !late n)
                                { st.tally with voids := if notes.filter late = [] then st.tally.voids else voids } told
                              exec (.noteBlock tag payload) s = .next (answer
                                (sealed (u.rowsTaken i (8 * (u.play.station i).feed.queue.length + 40)))
                                (notes.filter late).length))))))

/-- CHART_END is refused BAD_ARG for a station above 3 and BUSY in the states that do not take it. A taken one leaves a LOADED station
LOADED; makes a RUNNING station with something outstanding DRAINING; and one with nothing outstanding passes through DRAINING,
with its report, to FINISHED CLEARED at once, with its STATION and RESULT reports, and stops the timeline when no other station is
in play. -/
def Obligations.ChartEndCompletesTheChart : Prop :=
  ∀ (tag b : Byte) (e : BitVec 32) (s : State), s.Ready →
    (3 < b.toNat → exec (.chartEnd tag b e) s = .next (s.answered 0x12 tag ⟨.badArg, false, []⟩))
    ∧ ∀ i : StationId, b.toNat = i.val →
    let st := s.play.station i
    let feed : Feed := { st.feed with chartComplete := true, songEnd := some e.toInt, horizon := .unbounded, starved := false }
    ((st.state = .idle ∨ st.state = .draining ∨ st.state = .finished ∨ st.feed.chartComplete = true) →
        exec (.chartEnd tag b e) s = .next (s.answered 0x12 tag ⟨.busy, false, []⟩))
      ∧ (st.state = .loaded → st.feed.chartComplete = false →
          exec (.chartEnd tag b e) s = .next (State.answered
            { s with play := { s.play with stations := s.play.stations.set i { st with feed := feed } } }
            0x12 tag ⟨.ok, false, []⟩))
      ∧ (st.state = .running → st.feed.chartComplete = false → (st.noNotes = false ∨ s.play.timeline.t < e.toInt) →
          exec (.chartEnd tag b e) s = .next (State.answered
            { s with play := { s.play with
              stations := s.play.stations.set i { st with feed := feed, state := .draining }
              reports := s.play.reports.push { stamp := s.play.timeline.t, body := .station i .draining st.outcome } } }
            0x12 tag ⟨.ok, false, []⟩))
      ∧ (st.state = .running → st.feed.chartComplete = false → st.noNotes = true → e.toInt ≤ s.play.timeline.t →
          let now := s.play.timeline.t
          let stops : Bool := decide (s.play.timeline.state = .running ∧ ∀ j, j ≠ i → (s.play.station j).inPlay = false)
          exec (.chartEnd tag b e) s = .next (State.answered
            { s with play := { s.play with
              stations := s.play.stations.set i { st with
                feed := feed, state := .finished, outcome := some .cleared, synth := .all ⟨false, none⟩
                tally := { st.tally with record := some (st.tally.toRecord .cleared) } }
              timeline := if stops then { s.play.timeline with state := .stopped, pendingStart := none }
                else s.play.timeline
              reports := s.play.reports.pushAll
                ([⟨now, .station i .draining st.outcome⟩, ⟨now, .station i .finished (some .cleared)⟩,
                  ⟨now, .result i (st.tally.toRecord .cleared)⟩]
                  ++ if stops then [⟨now, .timeline .stopped now s.play.timeline.source s.play.timeline.lock 0⟩] else []) } }
            0x12 tag ⟨.ok, false, []⟩))

/-- What ABORT_SONG does with each station, by the table of R13: the code of its reply, the station after it, and its STATION and
RESULT reports, station by station in ascending order; then the one test that may stop the timeline. -/
def Obligations.AbortSongHandlesEachNamedStation : Prop :=
  ∀ (tag set : Byte) (s : State), s.Ready →
    ((set &&& 0x0F) = 0 → exec (.abortSong tag set) s = .next (s.answered 0x13 tag ⟨.badArg, false, []⟩))
      ∧ ((set &&& 0x0F) ≠ 0 →
          ∃ t : State, exec (.abortSong tag set) s = .next (t.answered 0x13 tag
              ⟨.ok, false, (stationIds.filter fun i => set.getLsbD i.val).flatMap fun i =>
                [codeByte i.val,
                  match (s.play.station i).state with
                  | .idle => 0x01
                  | .loaded => 0x00
                  | .running => 0x00
                  | .draining => if (s.play.station i).noNotes then 0x0A else 0x00
                  | .finished => 0x0A]⟩)
            ∧ (∀ i : StationId,
                let st := s.play.station i
                let st' := t.play.station i
                (set.getLsbD i.val = false → st' = st)
                  ∧ (set.getLsbD i.val = true → (st.state = .idle ∨ st.state = .finished) → st' = st)
                  ∧ (set.getLsbD i.val = true → st.state = .draining → st.noNotes = true →
                      st'.state = .finished ∧ st'.outcome = some .cleared
                        ∧ { st'.tally with record := st.tally.record } = st.tally)
                  ∧ (set.getLsbD i.val = true →
                      (st.state = .loaded ∨ st.state = .running ∨ (st.state = .draining ∧ st.noNotes = false)) →
                      st'.state = .finished ∧ st'.outcome = some .aborted ∧ st'.feed.queue = []
                        ∧ (∀ lane : PanelId, st'.holds.get lane = none)
                        ∧ { st'.tally with record := st.tally.record } = { st.tally with
                            discarded := min 65535 (st.tally.discarded + (st.feed.queue.length + st.holdCount)) }))
            ∧ t.play = ((stationIds.filter fun i => set.getLsbD i.val).foldl Play.abortByRules s.play).abortTestByRules
            ∧ t.play.timeline.t = s.play.timeline.t ∧ t.play.lamps = s.play.lamps ∧ { t with play := s.play } = s)

/-- CLEAR_STATION returns a FINISHED station to IDLE, its judge configuration kept, with a STATION report; in any other state it
is refused BUSY. -/
def Obligations.ClearStationReturnsToIdle : Prop :=
  ∀ (tag b : Byte) (s : State), s.Ready →
    (3 < b.toNat → exec (.clearStation tag b) s = .next (s.answered 0x14 tag ⟨.badArg, false, []⟩))
      ∧ ∀ i : StationId, b.toNat = i.val →
          ((s.play.station i).state ≠ .finished →
              exec (.clearStation tag b) s = .next (s.answered 0x14 tag ⟨.busy, false, []⟩))
            ∧ ((s.play.station i).state = .finished →
                exec (.clearStation tag b) s = .next (State.answered
                  { s with play := { s.play with
                    stations := s.play.stations.set i { State.reset.play.station i with judge := (s.play.station i).judge }
                    reports := s.play.reports.push { stamp := s.play.timeline.t, body := .station i .idle none } } }
                  0x14 tag ⟨.ok, false, []⟩))

/-! ### The song timeline -/

/-- START_SONG: refused BUSY unless STOPPED with a LOADED station; on EXTERNAL the timeline waits in STARTING; on HOLDOVER the
song starts within the request, by R119 with the stations' entry and its settlements. The moves of a scan's stamp are held in its
range by entry 22, and the bound on the settlements is entry 27's. -/
def Obligations.StartSongWaitsOrStarts : Prop :=
  ∀ (tag : Byte) (start : BitVec 32) (s : State), s.Ready →
    ((s.play.timeline.state ≠ .stopped ∨ ∀ i : StationId, (s.play.station i).state ≠ .loaded) →
        exec (.startSong tag start) s = .next (s.answered 0x20 tag ⟨.busy, false, []⟩))
      ∧ (s.play.timeline.state = .stopped → (∃ i : StationId, (s.play.station i).state = .loaded) →
          (s.play.timeline.source = .external →
              exec (.startSong tag start) s = .next (State.answered
                { s with play := { s.play with timeline := { s.play.timeline with
                  state := .starting, pendingStart := some start.toInt } } }
                0x20 tag ⟨.ok, false, []⟩))
            ∧ (s.play.timeline.source = .holdover →
                ∃ t : State, exec (.startSong tag start) s = .next (t.answered 0x20 tag ⟨.ok, false, []⟩)
                  ∧ t = s.enteredByRules start.toInt
                  ∧ t.play.timeline.t = start.toInt ∧ t.play.timeline.r = 0 ∧ t.play.timeline.lock = .free
                  ∧ t.play.timeline.badAnchors = 0 ∧ t.play.timeline.state ≠ .starting
                  ∧ ∀ i : StationId, (t.play.station i).state ≠ .loaded))

/-- The first edge of STARTING starts the song: T is the pending start, and the edge is not accumulated. The LOADED stations enter
play together, RUNNING or, with a complete chart, DRAINING; TIMELINE (started) and their STATION reports stand first, in ascending
order; then each takes its entry settlements, its starvation test and its finishing test by their rows, in ascending order, and
may finish by them. The other stations stand, and the run stamps move with T, a scan's stamp held in its range (entry 22). The
bound on the settlements is entry 27's. -/
def Obligations.FirstEdgeStartsTheSong : Prop :=
  ∀ (s : State) (start : Int), s.live = true → s.play.timeline.source = .external →
    s.play.timeline.state = .starting → s.play.timeline.pendingStart = some start →
      ∃ t : State, exec .audclkEdge s = .next t
        ∧ t.play.timeline.t = start ∧ t.play.timeline.r = 0 ∧ t.play.timeline.lock = .free
        ∧ t.play.timeline.badAnchors = 0 ∧ t.play.timeline.pendingStart = none ∧ t.play.timeline.state ≠ .starting
        ∧ t = State.enteredByRules start { s with play := { s.play with timeline := { s.play.timeline with
            lastEdge := some s.localTime, lossTimer := 0 } } }
        ∧ (∃ rs, t.play.reports = (s.play.reports.pushAll (s.play.startReports start)).pushAll rs)
        ∧ (∀ i : StationId,
            ((s.play.station i).state = .loaded →
                (t.play.station i).state = .finished ∨ (t.play.station i).state
                  = if (s.play.station i).feed.chartComplete then .draining else .running)
              ∧ ((s.play.station i).state ≠ .loaded → t.play.station i = s.play.station i)
              ∧ ∀ j : PanelId, t.panel i j
                  = { s.panel i j with state := (s.panel i j).state.moveStamp (start - s.play.timeline.t) })
        ∧ t.link = s.link ∧ t.drive = s.drive ∧ t.localTime = s.localTime

/-- STOP_SONG: refused BUSY in STOPPED; in STARTING it drops the pending start and leaves every station; in RUNNING it handles every
station in play by R13, FINISHED ABORTED with what it held discarded or CLEARED when nothing was outstanding, each with its
STATION and RESULT reports, in ascending order, then the one TIMELINE report (stopped); T stands. -/
def Obligations.StopSongEndsPlay : Prop :=
  ∀ (tag : Byte) (s : State), s.Ready →
    (s.play.timeline.state = .stopped →
        exec (.stopSong tag) s = .next (s.answered 0x21 tag ⟨.busy, false, []⟩))
      ∧ (s.play.timeline.state = .starting →
          exec (.stopSong tag) s = .next (State.answered
            { s with play := { s.play with
              timeline := { s.play.timeline with state := .stopped, pendingStart := none }
              reports := s.play.reports.push { stamp := s.play.timeline.t, body := (.timeline .stopped s.play.timeline.t
                s.play.timeline.source s.play.timeline.lock 0) } } }
            0x21 tag ⟨.ok, false, []⟩))
      ∧ (s.play.timeline.state = .running →
          ∃ t : State, exec (.stopSong tag) s = .next (t.answered 0x21 tag ⟨.ok, false, []⟩)
            ∧ t.play.timeline = { s.play.timeline with state := .stopped, pendingStart := none }
            ∧ (∀ i : StationId,
                let st := s.play.station i
                (st.state = .draining → st.noNotes = true → t.play.station i = st.afterClearing)
                  ∧ ((st.state = .running ∨ (st.state = .draining ∧ st.noNotes = false)) →
                      t.play.station i = st.afterDiscard .aborted)
                  ∧ (st.inPlay = false → t.play.station i = st))
            ∧ t.play = ((stationIds.filter fun i => (s.play.station i).inPlay).foldl Play.abortByRules s.play).stoppedByRules
            ∧ { t with play := s.play } = s)

/-- An ANCHOR that does not step: refused BUSY unless RUNNING; good within the tolerance, the boundary included; bad outside it
while fewer than two bad anchors stand. A change of the lock is reported. -/
def Obligations.AnchorSortsGoodAndBad : Prop :=
  ∀ (tag : Byte) (time : BitVec 32) (s : State), s.Ready →
    let diff := time.toInt - s.play.timeline.t
    let after (lock : Lock) (count : Nat) : State :=
      { s with play := { s.play with
        timeline := { s.play.timeline with lock := lock, badAnchors := count }
        reports := if s.play.timeline.lock = lock then s.play.reports
          else s.play.reports.push { stamp := s.play.timeline.t, body := (.timeline .lockChange s.play.timeline.t
            s.play.timeline.source lock 0) } } }
    (s.play.timeline.state ≠ .running → exec (.anchor tag time) s = .next (s.answered 0x22 tag ⟨.busy, false, []⟩))
      ∧ (s.play.timeline.state = .running → diff.natAbs ≤ s.play.timeline.tolerance →
          exec (.anchor tag time) s = .next ((after .locked 0).answered 0x22 tag
            ⟨.ok, false, leInt 4 (max (-2147483648) (min 2147483647 diff)) ++ [1, 0, 0]⟩))
      ∧ (s.play.timeline.state = .running → s.play.timeline.tolerance < diff.natAbs → s.play.timeline.badAnchors < 2 →
          exec (.anchor tag time) s = .next ((after .suspect (s.play.timeline.badAnchors + 1)).answered 0x22 tag
            ⟨.ok, false, leInt 4 (max (-2147483648) (min 2147483647 diff))
              ++ [2, codeByte (s.play.timeline.badAnchors + 1), 0]⟩))

/-- The third bad anchor in a row steps the timeline: T is the anchor's time, R 0, the lock LOCKED, the run stamps and the stamp of a
scan under way moved, with a TIMELINE report (step). A backward step settles nothing; a forward one has every station in play take
what the new T has reached, by the deadlines' rows, with the after-step flag set for as long as that lasts. The ascending order of
the stations is entry 9's, the held stamp of a scan under way entry 22's, and the bound on the settlements entry 27's. -/
def Obligations.ThirdBadAnchorStepsTheTimeline : Prop :=
  ∀ (tag : Byte) (time : BitVec 32) (s : State), s.Ready → s.play.timeline.state = .running →
    s.play.timeline.badAnchors = 2 → s.play.timeline.tolerance < (time.toInt - s.play.timeline.t).natAbs →
      let diff := time.toInt - s.play.timeline.t
      let told := max (-2147483648) (min 2147483647 diff)
      ∃ (t u : State), exec (.anchor tag time) s = .next (t.answered 0x22 tag
          ⟨.ok, false, leInt 4 told ++ [1, 0, 1]⟩)
        ∧ u.play = { s.play with
            timeline := { s.play.timeline with t := time.toInt, r := 0, lock := .locked, badAnchors := 0 }
            reports := s.play.reports.push { stamp := time.toInt, body := (.timeline .step time.toInt
              s.play.timeline.source .locked told) } }
        ∧ (∀ i : StationId, u.panelStation i = { s.panelStation i with panels := (u.panelStation i).panels }
            ∧ ∀ j : PanelId, u.panel i j = { s.panel i j with state := (s.panel i j).state.moveStamp diff })
        ∧ u.scanner = { s.scanner with
            scanStamp := if s.scanner.waiting.any id then
                max (-2147483648) (min 2147483647 (s.scanner.scanStamp + diff))
              else s.scanner.scanStamp }
        ∧ { u with play := s.play, panels := s.panels, scanner := s.scanner } = s
        ∧ (time.toInt < s.play.timeline.t → t = u)
        ∧ (s.play.timeline.t < time.toInt →
            t = State.modPlay (State.settledByRows (u.modPlay fun p => { p with afterStep := true }))
              fun p => { p with afterStep := false })
        ∧ t.play.timeline.t = time.toInt ∧ t.play.timeline.r = 0 ∧ t.play.timeline.lock = .locked
        ∧ t.play.timeline.badAnchors = 0 ∧ t.play.timeline.source = s.play.timeline.source

/-- A rising AUDCLK edge on EXTERNAL: while RUNNING, R and T take the increment of R112 within the top of R111's range, and every
station in play takes what T has reached by its rows, in ascending order (entry 9) and within the bound of entry 27; while STOPPED
only the loss timer and the last-edge time change. -/
def Obligations.AudclkEdgeAccumulatesSongTime : Prop :=
  ∀ s : State, s.live = true → s.play.timeline.source = .external →
    let tl := s.play.timeline
    let gain : Int := ((tl.r + 1000000) / tl.rate : Nat)
    let edged : Timeline := { tl with lastEdge := some s.localTime, lossTimer := 0 }
    let advanced : Timeline :=
      if tl.t + gain ≤ 2147483647 then { edged with t := tl.t + gain, r := (tl.r + 1000000) % tl.rate }
      else { edged with t := 2147483647, r := 0 }
    (tl.state = .stopped → exec .audclkEdge s = .next { s with play := { s.play with timeline := edged } })
      ∧ (tl.state = .running →
          ∃ t : State, exec .audclkEdge s = .next t
            ∧ t = State.settledByRows { s with play := { s.play with timeline := advanced } }
            ∧ t.play.timeline.t = advanced.t ∧ t.play.timeline.r = advanced.r
            ∧ { t.play.timeline with state := tl.state, t := tl.t, r := tl.r, pendingStart := tl.pendingStart } = edged
            ∧ t.play.scoring = s.play.scoring ∧ t.play.grace = s.play.grace ∧ t.play.rollGap = s.play.rollGap
            ∧ (∀ i : StationId, (s.play.station i).inPlay = false → t.play.station i = s.play.station i)
            ∧ { t with play := s.play } = s)

/-- A microsecond of HOLDOVER: while RUNNING, T rises by 1 with R kept, and at the top of its range it stands with R at 0; every
station in play takes what T has reached by its rows, in ascending order (entry 9) and within the bound of entry 27. That the row
changes nothing where the timeline does not run on HOLDOVER is entry 5's choice, and that it is taken at any moment of local time
entry 4's. -/
def Obligations.HoldoverTickAdvancesByOne : Prop :=
  ∀ s : State, s.live = true →
    let tl := s.play.timeline
    let advanced : Timeline :=
      if tl.t < 2147483647 then { tl with t := tl.t + 1 } else { tl with t := 2147483647, r := 0 }
    ((tl.state ≠ .running ∨ tl.source = .external) → exec .holdoverTick s = .next s)
      ∧ (tl.state = .running → tl.source = .holdover →
          ∃ t : State, exec .holdoverTick s = .next t
            ∧ t = State.settledByRows { s with play := { s.play with timeline := advanced } }
            ∧ t.play.timeline.t = advanced.t ∧ t.play.timeline.r = advanced.r
            ∧ (∀ i : StationId, (s.play.station i).inPlay = false → t.play.station i = s.play.station i)
            ∧ { t with play := s.play } = s)

/-- The loss of the source and its return: the source changes and is reported, R is 0, T is not moved. A loss in STARTING then
starts the song at its pending start, the report of the start after that of the change, with the stations' entry as on a first edge.
The return is the edge that completes 256 well-spaced ones, and the AUDCLK_EDGE row has the same effect on that edge. An edge in
HOLDOVER that completes no run of 256 moves the edge run count by its spacing and nothing else but the last-edge time. The moved
stamp of a scan is held in its range by entry 22, and the bound on the settlements is entry 27's. That LOSS_TIMER_EXPIRY is taken at
any value of the loss timer is entry 4's choice, that SOURCE_RETURN changes nothing where no run of 256 is completed entry 5's, the
run count kept at 256 on EXTERNAL entry 30's, an edge in STARTING on HOLDOVER entry 31's, and the loss timer's 0 on HOLDOVER entry
32's. -/
def Obligations.SourceMonitorFollowsTheClock : Prop :=
  (∀ s : State, s.live = true →
    let tl := s.play.timeline
    let told (source : Source) : ReportQueue :=
      s.play.reports.push { stamp := tl.t, body := (.timeline .sourceChange tl.t source tl.lock 0) }
    let lost : Timeline := { tl with source := .holdover, r := 0, edgeRun := 0, lossTimer := 0 }
    (tl.source = .external → tl.state ≠ .starting →
        exec .lossTimerExpiry s = .next { s with play := { s.play with timeline := lost, reports := told .holdover } })
      ∧ (∀ start, tl.source = .external → tl.state = .starting → tl.pendingStart = some start →
          ∃ t : State, exec .lossTimerExpiry s = .next t
            ∧ t = State.enteredByRules start
                { s with play := { s.play with timeline := lost, reports := told .holdover } }
            ∧ { t.play.timeline with state := .running } = { lost with
                state := .running, t := start, r := 0, pendingStart := none, startTime := start, lock := .free
                badAnchors := 0 }
            ∧ t.play.timeline.state ≠ .starting
            ∧ (∃ rs, t.play.reports = ((told .holdover).push
                { stamp := start, body := (.timeline .started start .holdover .free 0) }).pushAll rs)
            ∧ (∀ i : StationId,
                ((s.play.station i).state = .loaded →
                    (t.play.station i).state ≠ .loaded ∧ (t.play.station i).state ≠ .idle)
                  ∧ ((s.play.station i).state ≠ .loaded → t.play.station i = s.play.station i)
                  ∧ ∀ j : PanelId, t.panel i j
                      = { s.panel i j with state := (s.panel i j).state.moveStamp (start - tl.t) })
            ∧ t.link = s.link ∧ t.drive = s.drive ∧ t.localTime = s.localTime)
      ∧ (∀ before, tl.source = .holdover → tl.lastEdge = some before → tl.edgeRun = 255 →
          9 * 12000000 ≤ 10 * (s.localTime - before) * tl.rate → 10 * (s.localTime - before) * tl.rate ≤ 11 * 12000000 →
          exec .sourceReturn s = .next { s with play := { s.play with
              timeline := { tl with
                source := .external, r := 0, edgeRun := 256, lossTimer := 0, lastEdge := some s.localTime }
              reports := told .external } }
            ∧ exec .audclkEdge s = exec .sourceReturn s))
    ∧ (∀ s : State, s.live = true → s.play.timeline.source = .holdover →
    let tl := s.play.timeline
    let run : Nat := match tl.lastEdge with
      | none => 0
      | some before =>
        if 9 * 12000000 ≤ 10 * (s.localTime - before) * tl.rate
            ∧ 10 * (s.localTime - before) * tl.rate ≤ 11 * 12000000 then tl.edgeRun + 1
        else 0
    run < 256 →
      exec .audclkEdge s = .next { s with play := { s.play with timeline := { tl with
          lastEdge := some s.localTime, edgeRun := run } } }
        ∧ exec .sourceReturn s = .next s)

/-! ### Reached deadlines -/

/-- The deadlines of a station in play: the close of each queued TAP and head, a mine's check and close, the end and deadline of each
entry, the pending releases, roll presses and note presses of an autoplay station, and the starvation test, each at the value its
rule gives; a station not in play has none. Of those that T has reached, the one taken next has the lowest value and, among equal
values, the first place: records in queue order, entries by lane with the end first, synthetic releases, roll presses, presses of
notes, and the starvation test last. With none reached, none is taken. -/
def Obligations.LowestReachedDeadlineIsTakenNext : Prop :=
  ∀ (p : Play) (i : StationId),
    (∀ d : Due, d ∈ p.dues i ↔ (p.station i).inPlay = true ∧ p.DueByRules i d)
      ∧ (∀ d, p.nextDue i = some d →
        d ∈ p.dues i ∧ d.1 ≤ p.time ∧ ∀ e ∈ p.dues i, e.1 ≤ p.time → Due.NoLater d e)
      ∧ (p.nextDue i = none → ∀ e ∈ p.dues i, p.time < e.1)

/-- The eleven rows of reached deadlines touch the play of their own station alone: its record, its lamps, the reports, and the
timeline's state when the last station leaves play. A row whose event has not come about changes nothing: a row that is not the
one of the station's next reached deadline, and SONG_END_REACHED on a station that is not DRAINING with nothing outstanding at its
song end (entries 5 and 10). -/
def Obligations.DeadlineRowsTouchOneStation : Prop :=
  (∀ (i : StationId) (s : State) (c : Instr),
    c ∈ [Instr.noteClose i, .headClose i, .mineCheck i, .mineClose i, .effectiveEndReached i, .holdDeadlineReached i,
      .syntheticPress i, .syntheticRelease i, .rollPress i, .starvation i, .songEndReached i] →
      ∃ t : State, exec c s = .next t ∧ s.DifferOnlyAt i t)
    ∧ (∀ (i : StationId) (s : State),
    (∀ c ∈ [Instr.noteClose i, .headClose i, .mineCheck i, .mineClose i, .effectiveEndReached i, .holdDeadlineReached i,
        .syntheticPress i, .syntheticRelease i, .rollPress i, .starvation i],
        (∀ d, s.play.nextDue i = some d → rowOf i d.2 ≠ c) → exec c s = .next s)
      ∧ ((∀ e, (s.play.station i).state = .draining → (s.play.station i).noNotes = true →
            (s.play.station i).feed.songEnd = some e → s.play.timeline.t < e) →
          exec (.songEndReached i) s = .next s))

/-- What a result does, and NOTE_CLOSE. A result raises its count, its points to at most 4,294,967,295, the combo by its kind with
max combo, life by its delta within 0 to 1,000, and the score by U and the table, with the over-units flag; it restarts the flash
of the lamps of its lanes that have it in their set (a crystal period longer after a PWM period's start, entry 37). NOTE_CLOSE
settles a TAP or jump MISS: the record leaves, the MISS is applied and reported, and the tests that follow are made, or the station
fails with the rest of its notes discarded. The row takes the station's next reached deadline when it is of its kind (entry 10). -/
def Obligations.NoteCloseSettlesMiss : Prop :=
  (∀ (table : PerResult ScoreRow) (r : Result) (u : Tally),
    let e := min 4294967295 (u.points + (table.get r).points)
    let m := u.units * max table.crisp.points table.held.points
    let combo := if r ∈ [Result.crisp, .solid, .fair, .held] then min 65535 (u.combo + 1)
      else if r ∈ [Result.loose, .poor, .miss, .dropped] then 0 else u.combo
    u.apply table r = { u with
      counts := u.counts.set r (min 65535 (u.counts.get r + 1))
      points := e
      combo := combo
      maxCombo := max u.maxCombo combo
      life := (max 0 (min 1000 ((u.life : Int) + (table.get r).life))).toNat
      score := if m = 0 then 0 else if e ≤ m then 1000000 * e / m else 1000000
      overUnits := u.overUnits || decide (m < e) })
    ∧ (∀ (p : Play) (i : StationId) (lanes : LaneSet) (r : Result),
    { p.lampResult i lanes r with lamps := p.lamps } = p
      ∧ ∀ (k : StationId) (j : PanelId),
        let l := (p.lamps.get k).get j
        ((∀ v d set n, l.mode = .flash v d set n → k = i → LaneSet.has lanes j = true →
            set.getLsbD (resultCode r) = true →
            ((p.lampResult i lanes r).lamps.get k).get j
              = { l with mode := .flash v d set (d * 12000 + if p.periodBegun then 1 else 0) })
          ∧ ((∀ v d set n, l.mode = .flash v d set n → k = i → LaneSet.has lanes j = true →
            set.getLsbD (resultCode r) = false) → ((p.lampResult i lanes r).lamps.get k).get j = l)))
    ∧ (∀ (i : StationId) (s : State) (v : Int) (k : Nat) (n : NoteRecord), s.live = true →
    s.play.nextDue i = some (v, .noteClose k) → (s.play.station i).feed.queue[k]? = some n →
      let st := s.play.station i
      let u := st.tally.apply s.play.scoring .miss
      let gone : Station := { st with tally := u, feed := { st.feed with queue := st.feed.queue.eraseIdx k } }
      exec (.noteClose i) s = .next { s with
        play := s.play.settlementByRules i gone (s.play.lampResult i n.lanes .miss).lamps
          ([s.play.judgeByRule i n .miss u none] ++ s.play.adviceByRule i gone) })

/-- HEAD_CLOSE gives a head MISS and then, unless that fails the station, a tail DROPPED; the record leaves, no entry is made, and
the tests that follow are made once, after the second result. -/
def Obligations.HeadCloseGivesMissAndDropped : Prop :=
  ∀ (i : StationId) (s : State) (v : Int) (k : Nat) (n : NoteRecord), s.live = true →
    s.play.nextDue i = some (v, .headClose k) → (s.play.station i).feed.queue[k]? = some n →
      let st := s.play.station i
      let u := st.tally.apply s.play.scoring .miss
      let w := u.apply s.play.scoring .dropped
      let head := s.play.judgeByRule i n .miss u none
      let missed : Station := { st with tally := u }
      let gone : Station := { st with tally := w, feed := { st.feed with queue := st.feed.queue.eraseIdx k } }
      let lamps := s.play.lampResult i n.lanes .miss
      let q : Play :=
        if missed.Fails then s.play.settlementByRules i missed lamps.lamps [head]
        else s.play.settlementByRules i gone (lamps.lampResult i (LaneSet.single n.lane) .dropped).lamps
          ([head, s.play.holdEndByRule i n.id n.lane .dropped w] ++ s.play.adviceByRule i gone)
      exec (.headClose i) s = .next { s with play := q }

/-- MINE_CHECK touches a mine whose lane is down in the judge's view, and nothing else; MINE_CLOSE settles the mine MINE_HIT when
touched and MINE_AVOIDED when not, with a MINE report, and the record leaves. -/
def Obligations.MinesAreCheckedAndClosed : Prop :=
  ∀ (i : StationId) (s : State) (v : Int) (k : Nat) (n : NoteRecord), s.live = true →
    (s.play.station i).feed.queue[k]? = some n →
      let st := s.play.station i
      let down : Bool := if st.autoplay then (st.synth.get n.lane).pressed else (s.panel i n.lane).isDown
      let r : Result := if n.touched then .mineHit else .mineAvoided
      let u := st.tally.apply s.play.scoring r
      let gone : Station := { st with tally := u, feed := { st.feed with queue := st.feed.queue.eraseIdx k } }
      (s.play.nextDue i = some (v, .mineCheck k) →
          exec (.mineCheck i) s = .next { s with play := { s.play with stations := s.play.stations.set i { st with feed := { st.feed with
              queue := st.feed.queue.set k { n with touched := n.touched || down, checkTaken := true } } } } })
        ∧ (s.play.nextDue i = some (v, .mineClose k) →
            exec (.mineClose i) s = .next { s with
              play := s.play.settlementByRules i gone (s.play.lampResult i n.lanes r).lamps
                ([⟨s.play.timeline.t, .mine i n.id n.lane r u.life⟩] ++ s.play.adviceByRule i gone) })

/-- EFFECTIVE_END_REACHED settles the tail of its lane's entry HELD, and HOLD_DEADLINE_REACHED settles it DROPPED: the result is
applied, the lamp of the lane told, the HOLD_END report queued, and the entry leaves. -/
def Obligations.TailsAreSettledAtEndAndDeadline : Prop :=
  ∀ (i : StationId) (s : State) (v : Int) (lane : PanelId) (e : HoldEntry) (held : Bool), s.live = true →
    (s.play.station i).holds.get lane = some e →
    s.play.nextDue i = some (v, if held then .holdEnd lane else .holdDeadline lane) →
      let st := s.play.station i
      let r : Result := if held then .held else .dropped
      let u := st.tally.apply s.play.scoring r
      exec (if held then .effectiveEndReached i else .holdDeadlineReached i) s = .next { s with
        play := s.play.settlementByRules i { st with tally := u, holds := st.holds.set lane none }
          (s.play.lampResult i (LaneSet.single lane) r).lamps [s.play.holdEndByRule i e.id lane r u] }

/-- SYNTHETIC_PRESS: more than 2,000 µs and more than W5 after the note's effective time no press is made and the record is only
marked; else, lane by lane while the station is in play, the lane is pressed with the later of its pending release and the one the
press calls for, and the press is taken by the judge as any offered press, on the lanes of the mask. That a press with
W5 < d ≤ 2,000 is made is the model's choice (entry 38). -/
def Obligations.SyntheticPressPressesTheLanes : Prop :=
  ∀ (i : StationId) (s : State) (v : Int) (k : Nat) (n : NoteRecord), s.live = true →
    s.play.nextDue i = some (v, .synthPress k) → (s.play.station i).feed.queue[k]? = some n →
      let st := s.play.station i
      let d := s.play.timeline.t - (n.time + st.judge.offset)
      let stamp := if d ≤ 2000 then n.time + st.judge.offset else s.play.timeline.t
      let release : Int :=
        match n.kind with
        | .tap => stamp + 40000
        | .hold e => e + st.judge.offset
        | .roll _ => stamp + (s.play.rollGap / 4 : Nat)
        | .mine => stamp
      let marked : Play := s.play.setStation i { st with feed := { st.feed with
        queue := st.feed.queue.set k { n with pressTaken := true } } }
      let press (p : Play) (lane : PanelId) : Play :=
        if (p.station i).inPlay = true then
          let pending : Int := match ((p.station i).synth.get lane).pendingRelease with
            | none => release
            | some w => max w release
          let pressed := p.setStation i
            { p.station i with synth := (p.station i).synth.set lane ⟨true, some pending⟩ }
          if LaneSet.has st.mask lane = true then pressed.pressByRules i lane stamp true else pressed
        else p
      ((2000 < d ∧ (st.judge.w5 : Int) < d) → exec (.syntheticPress i) s = .next { s with play := marked })
        ∧ ((d ≤ 2000 ∨ d ≤ st.judge.w5) →
            exec (.syntheticPress i) s = .next { s with
              play := (panelIds.filter fun lane => LaneSet.has n.lanes lane).foldl press marked })

/-- SYNTHETIC_RELEASE releases its lane, and the release is taken by the hold table: an entry in HOLDING enters LET_GO, and one
whose grace is already over is settled at once. ROLL_PRESS renews the roll's deadline from its stamp, schedules the next press before the effective
end, presses the lane and touches the mines in reach; it gives no result. -/
def Obligations.SyntheticReleaseAndRollPress : Prop :=
  (∀ (i : StationId) (s : State) (v : Int) (lane : PanelId), s.live = true →
    s.play.nextDue i = some (v, .synthRelease lane) →
      let st := s.play.station i
      let stamp := if s.play.timeline.t - v ≤ 2000 then v else s.play.timeline.t
      let lifted := s.play.setStation i { st with synth := st.synth.set lane ⟨false, none⟩ }
      exec (.syntheticRelease i) s = .next { s with
        play := if LaneSet.has st.mask lane = true then lifted.releaseByRules i lane stamp else lifted })
    ∧ (∀ (i : StationId) (s : State) (v d : Int) (lane : PanelId) (e : HoldEntry), s.live = true →
    s.play.nextDue i = some (v, .rollPress lane) → (s.play.station i).holds.get lane = some e → e.state = .rolling d →
    LaneSet.has (s.play.station i).mask lane = true →
      let st := s.play.station i
      let stamp := if s.play.timeline.t - v ≤ 2000 then v else s.play.timeline.t
      let next := stamp + (s.play.rollGap / 2 : Nat)
      let old := (st.synth.get lane).pendingRelease
      ∃ t : State, exec (.rollPress i) s = .next t
        ∧ (t.play.station i).holds = st.holds.set lane (some { e with
            state := .rolling (stamp + s.play.rollGap)
            nextPress := if next < e.effectiveEnd then some next else none })
        ∧ (t.play.station i).synth = st.synth.set lane
            ⟨true, some (match old with
              | none => stamp + (s.play.rollGap / 4 : Nat)
              | some w => max w (stamp + (s.play.rollGap / 4 : Nat)))⟩
        ∧ (t.play.station i).feed.queue = st.feed.queue.map (fun n : NoteRecord =>
            if n.kind = .mine ∧ LaneSet.has n.lanes lane = true
                ∧ (stamp - (n.time + st.judge.offset)).natAbs ≤ st.judge.wm then { n with touched := true }
            else n)
        ∧ (t.play.station i).tally = st.tally ∧ t.play.reports = s.play.reports ∧ t.play.lamps = s.play.lamps)

/-- STARVATION sets the starved flag and queues a FEED report; SONG_END_REACHED finishes a DRAINING station with nothing
outstanding, CLEARED, with its STATION and RESULT reports, and stops the timeline when no station remains in play. -/
def Obligations.StarvationAndSongEnd : Prop :=
  ∀ (i : StationId) (s : State), s.live = true →
    let st := s.play.station i
    (∀ v, s.play.nextDue i = some (v, .starvation) →
        exec (.starvation i) s = .next { s with play := { s.play with
          stations := s.play.stations.set i { st with feed := { st.feed with starved := true } }
          reports := s.play.reports.push { stamp := s.play.timeline.t
                                           body := .feed i (192 - st.feed.queue.length) st.feed.horizon true } } })
      ∧ (∀ e, st.state = .draining → st.noNotes = true → st.feed.songEnd = some e → e ≤ s.play.timeline.t →
          ∃ t : State, exec (.songEndReached i) s = .next t
            ∧ t.play.station i = { st with
                state := .finished, outcome := some .cleared, synth := .all ⟨false, none⟩
                tally := { st.tally with record := some (st.tally.toRecord .cleared) } }
            ∧ (∃ rs, t.play.reports = ((s.play.reports.push
                  { stamp := s.play.timeline.t, body := (.station i .finished (some .cleared)) }).push
                  { stamp := s.play.timeline.t, body := (.result i (st.tally.toRecord .cleared)) }).pushAll rs)
            ∧ (s.play.timeline.state = .running → (∀ j, j ≠ i → (s.play.station j).inPlay = false) →
                t.play.timeline.state = .stopped))

/-! ### Sensors and panels -/

/-- SCAN_START reads T as the scan's stamp and which panels are RELEASED, and awaits every station's samples. From its start SEL0 to
SEL5 select channels 0 to 35 for 6 µs each, then channel 0 to the end of its 250 µs; that the bus stands still with the scan
without supply and in reset is entry 28's choice. That a put row sets the
countdown to 250 is entry 4's choice, that the scan waits for each station's samples entry 23's, and that samples of a scan
before it are no longer awaited entry 40's. -/
def Obligations.ScanStartReadsTheStamp : Prop :=
  ∀ s : State, s.live = true →
    exec .scanStart s = .next { s with scanner := { s.scanner with
      scanStamp := s.play.timeline.t
      waiting := ⟨true, true, true, true⟩
      rested := s.panels.map fun ps => ps.panels.map fun p => decide (p.state = .released)
      countdown := 250 } }
      ∧ (∀ n : Nat, n < 216 → s.scanner.countdown + n = 250 → s.scanner.sel = n / 6)
      ∧ (∀ n : Nat, 216 ≤ n → s.scanner.countdown + n = 250 → s.scanner.sel = 0)

/-- SCAN_COMPLETE for a station whose samples are not yet in. Each channel is taken through R132: raw, rail count, seed, load, in the
learning phase the learning of a panel RELEASED at the scan's start, and in the scan that ends a block the health of R137 and
R138. The panel loads are formed by R135 over the channels GOOD in this scan, the FAULT reports queued in channel order. The panel
unit then takes the station's panels in order, each by R146, its occupancy by R157 and its combo by R159; the other stations stand.
With the last station the two counters advance. A second SCAN_COMPLETE of the station in one scan does nothing. That the command
carries the samples, once for each station and scan, is the model's choice (entry 23), that the rail count is held at 1,000 entry
40's, and that the health changed by a block's end stands beside this scan's loads entry 39's. An edge given in STOPPED or STARTING
carries the held T whatever its run or scan stamp is, R149's last sentence read as entry 45 says; that the release of a panel that
becomes STUCK is delivered at once, to the entries of that moment alone, is entry 46's choice. -/
def Obligations.ScanCompleteTakesEveryChannel : Prop :=
  ∀ (i : StationId) (samples : Samples) (s : State), s.live = true →
    (s.scanner.waiting.get i = false → exec (.scanComplete i samples) s = .next s)
      ∧ (s.scanner.waiting.get i = true →
        let sc := s.scanner
        let before (j : PanelId) (k : Fin 4) : Channel := ((sc.stations.get i).channels.get j).get k
        let scanned (j : PanelId) (k : Fin 4) : Channel :=
          (before j k).sampleByRules ((samples.get j).get k).toNat (sc.learnPhase = 15 ∧ (sc.rested.get i).get j = true)
        let after (j : PanelId) (k : Fin 4) : Channel :=
          if sc.blockPos = 999 then (scanned j k).blockByRules else scanned j k
        let good (j : PanelId) : List (Fin 4) := corners.filter fun k => !(before j k).faulty
        let load (j : PanelId) : Nat := 4 * ((good j).map fun k => (scanned j k).load).sum / (good j).length
        let recovered (j : PanelId) : Bool :=
          corners.any fun k => (before j k).faulty && !(after j k).faulty
        let reported : State := { s with play := { s.play with
          reports := s.play.reports.pushAll (faultsByRule i s.play.timeline.t before after) } }
        let taken := panelIds.foldl
          (fun u j => u.panelByRules i j sc.scanStamp (load j) (good j).length (recovered j)) reported
        ∃ t : State, exec (.scanComplete i samples) s = .next t
          ∧ (∀ (j : PanelId) (k : Fin 4), ((t.scanner.stations.get i).channels.get j).get k = after j k)
          ∧ (∀ j : PanelId, (t.scanner.stations.get i).loads.get j = load j)
          ∧ (t.scanner.stations.get i).stamp = sc.scanStamp
          ∧ { t with scanner := s.scanner } = (taken.occupancyByRules i).comboByRules i
          ∧ (∀ k, k ≠ i → t.scanner.stations.get k = s.scanner.stations.get k
              ∧ t.panelStation k = s.panelStation k ∧ t.play.station k = s.play.station k)
          ∧ t.scanner.waiting = s.scanner.waiting.set i false
          ∧ t.scanner.scanStamp = sc.scanStamp ∧ t.scanner.rested = sc.rested ∧ t.scanner.countdown = sc.countdown
          ∧ ((∀ k, k ≠ i → s.scanner.waiting.get k = false) →
              t.scanner.learnPhase = (if s.scanner.learnPhase = 15 then 0 else s.scanner.learnPhase + 1)
                ∧ t.scanner.blockPos = (if s.scanner.blockPos = 999 then 0 else s.scanner.blockPos + 1))
          ∧ ((∃ k, k ≠ i ∧ s.scanner.waiting.get k = true) →
              t.scanner.learnPhase = s.scanner.learnPhase ∧ t.scanner.blockPos = s.scanner.blockPos)
          ∧ t.link = s.link ∧ t.drive = s.drive ∧ t.localTime = s.localTime)

/-- BASELINE_LEARN ends the scan under way at the learning phase, and CHANNEL_BLOCK_END ends it at block position 999: each is the
SCAN_COMPLETE of every station whose samples are not yet in, in ascending order, with samples that are free values, counted. So a
GOOD channel of a panel RELEASED at the scan's start that takes no seed is drawn a sixty-fourth of the way to its sample; and 915
rail samples or more, this scan's among them, make a GOOD channel FAULTY with its latch set, 10 or fewer return a FAULTY one to
GOOD with its seed pending, and every count returns to 0. A station whose samples are in stands, and in any other phase or at
any other position the row changes nothing. That the rows carry no samples and end the scan of all stations so is the model's
choice (entry 24). -/
def Obligations.LearningAndBlockEndChangeTheChannels : Prop :=
  ∀ s : State, s.live = true →
    let ended := stationIds.foldl (fun (u : State) i =>
      if u.scanner.waiting.get i = true then { u.runs (.scanComplete i (freeSamples u.draws)) with draws := u.draws + 1 } else u) s
    (s.scanner.learnPhase ≠ 15 → exec .baselineLearn s = .next s)
      ∧ (s.scanner.blockPos ≠ 999 → exec .channelBlockEnd s = .next s)
      ∧ (s.scanner.learnPhase = 15 → exec .baselineLearn s = .next ended)
      ∧ (s.scanner.blockPos = 999 → exec .channelBlockEnd s = .next ended)
      ∧ ended.draws = s.draws + (stationIds.filter s.scanner.waiting.get).length
      ∧ ∀ (i : StationId) (j : PanelId) (corner : Fin 4),
        let c := ((s.scanner.stations.get i).channels.get j).get corner
        let c' := ((ended.scanner.stations.get i).channels.get j).get corner
        let rails := min 1000 (c.railCount + if c'.raw ≤ 15 ∨ 4080 ≤ c'.raw then 1 else 0)
        ended.scanner.waiting.get i = false
          ∧ (s.scanner.waiting.get i = false → c' = c)
          ∧ (s.scanner.waiting.get i = true →
            c'.raw ≤ 4095
              ∧ (s.scanner.learnPhase = 15 → c'.b16
                = if c.faulty = true then c.b16
                  else if c.seedPending = true then c'.raw * 16
                  else if (s.scanner.rested.get i).get j = true then
                    ((c.b16 : Int) + ((c'.raw * 16 : Int) - c.b16).tdiv 64).toNat
                  else c.b16)
              ∧ (s.scanner.blockPos = 999 → c'.railCount = 0
                ∧ (c.faulty = false → c'.faulty = decide (915 ≤ rails) ∧ c'.latch = (c.latch || decide (915 ≤ rails)))
                ∧ (c.faulty = true → c'.faulty = decide (10 < rails) ∧ c'.latch = c.latch
                    ∧ c'.seedPending = (c.seedPending || decide (rails ≤ 10)))))

/-- PRESS_CONFIRM on a run that the present scan completes: the panel is PRESSED with its timer at 0, and its press edge, stamped
with the run's first scan, or with the held T in STOPPED and STARTING (R149 as entry 45 reads it), is delivered: reported where the
station's press reports are on, taken by the judge of a station in play (R49 to R57, R76 to R82), and by occupancy. A panel with no
such run stands. That the row stands for the part of a scan that completes the run, and takes the last scan's stamp where no scan is
under way, is the model's choice (entry 25). -/
def Obligations.PressConfirmMakesThePanelPressed : Prop :=
  ∀ (i : StationId) (j : PanelId) (s : State), s.live = true →
    let p := s.panel i j
    let down := s.setPanel i j { p with state := .pressed, stuckTimer := 0 }
    (∀ stamp count, p.state = .pressing stamp count → p.config.dOn ≤ count + 1 →
        exec (.pressConfirm i j) s = .next (down.edgeByRules i j (.press stamp)))
      ∧ (p.state = .released → p.config.dOn ≤ 1 →
          exec (.pressConfirm i j) s = .next (down.edgeByRules i j (.press s.scanner.scanStamp)))
      ∧ ((∀ stamp count, p.state = .pressing stamp count → count + 1 < p.config.dOn) →
          (p.state = .released → 1 < p.config.dOn) → exec (.pressConfirm i j) s = .next s)

/-- RELEASE_CONFIRM on a run that the present scan completes makes the panel RELEASED and delivers its release edge, stamped with
the run's first scan, or with the held T in STOPPED and STARTING (R149 as entry 45 reads it); STUCK_EXIT on an exit count that the
present scan completes makes it RELEASED with no edge; PANEL_STUCK on a due timer makes it STUCK with its latch set, a FAULT report,
and a release edge with the scan's stamp, or the held T likewise (entry 45), delivered at once, to the entries of that moment alone
(entry 46). A row not due changes nothing (entry 5). The rows are parts of a scan's work, and take the last scan's stamp where no
scan is under way, by the model's choice (entry 25). -/
def Obligations.PanelsAreReleasedAndStuck : Prop :=
  ∀ (i : StationId) (j : PanelId) (s : State), s.live = true →
    let p := s.panel i j
    let up := s.setPanel i j { p with state := .released, stuckTimer := 0 }
    let stuck := s.setPanel i j { p with state := .stuck 0, stuckTimer := 0, stuckLatch := true }
    let due : Prop := p.isDown = true ∧ (s.play.station i).holds.get j = none
      ∧ p.config.stuckTime * 1000000 ≤ p.stuckTimer + 250
    (∀ stamp count, p.state = .releasing stamp count → p.config.dOff ≤ count + 1 →
        exec (.releaseConfirm i j) s = .next (up.edgeByRules i j (.release stamp)))
      ∧ (p.state = .pressed → p.config.dOff ≤ 1 →
          exec (.releaseConfirm i j) s = .next (up.edgeByRules i j (.release s.scanner.scanStamp)))
      ∧ ((∀ stamp count, p.state = .releasing stamp count → count + 1 < p.config.dOff) →
          (p.state = .pressed → 1 < p.config.dOff) → exec (.releaseConfirm i j) s = .next s)
      ∧ (∀ count, p.state = .stuck count → p.config.dOff ≤ count + 1 → exec (.stuckExit i j) s = .next up)
      ∧ ((∀ count, p.state = .stuck count → count + 1 < p.config.dOff) → exec (.stuckExit i j) s = .next s)
      ∧ (due → exec (.panelStuck i j) s = .next (State.edgeByRules i j (.release s.scanner.scanStamp)
          { stuck with play := { s.play with
            reports := s.play.reports.push { stamp := s.play.timeline.t, body := .fault i j.val .panelStuck } } }))
      ∧ (¬ due → exec (.panelStuck i j) s = .next s)

/-- OCCUPANCY_VACANT on a due timer makes the station VACANT with a PRESENCE report; SERVICE_COMBO on a due timer queues SERVICE,
makes the combo SPENT, and changes nothing more without the abort flag; with it the station is then handled by R13, its STATION
and RESULT reports after SERVICE, and the test that may stop the timeline is made. The rows are parts of a scan's work by the
model's choice (entry 25). -/
def Obligations.OccupancyEndsAndTheComboFires : Prop :=
  ∀ (i : StationId) (s : State), s.live = true →
    let ps := s.panelStation i
    (ps.occupied = true → ps.occupancyAge ≠ 0 → (∀ j : PanelId, (s.panel i j).isDown = false) →
        ps.occupancyAge * 1000000 ≤ ps.occupancyTimer + 250 →
        exec (.occupancyVacant i) s = .next { s with
          panels := s.panels.set i { ps with occupied := false, occupancyTimer := 0 }
          play := { s.play with reports := s.play.reports.push { stamp := s.play.timeline.t, body := .presence i true } } })
      ∧ (ps.comboLanes ≠ 0 → ps.comboSpent = false →
          (∀ j : PanelId, LaneSet.has ps.comboLanes j = true → (s.panel i j).isDown = true) →
          ps.comboHold * 1000000 ≤ ps.comboTimer + 250 →
          (ps.comboAbort = false →
              exec (.serviceCombo i) s = .next { s with
                panels := s.panels.set i { ps with comboSpent := true, comboTimer := 0 }
                play := { s.play with
                  reports := s.play.reports.push { stamp := s.play.timeline.t, body := .service i } } })
            ∧ (ps.comboAbort = true →
                ∃ t : State, exec (.serviceCombo i) s = .next t
                  ∧ t = { s with
                      panels := s.panels.set i { ps with comboSpent := true, comboTimer := 0 }
                      play := (Play.abortByRules { s.play with
                        reports := s.play.reports.push { stamp := s.play.timeline.t, body := .service i } }
                        i).abortTestByRules }
                  ∧ t.panels = s.panels.set i { ps with comboSpent := true, comboTimer := 0 }
                  ∧ (∀ k, k ≠ i → t.play.station k = s.play.station k)
                  ∧ (((s.play.station i).inPlay = true ∨ (s.play.station i).state = .loaded) →
                      (t.play.station i).state = .finished)
                  ∧ (((s.play.station i).state = .idle ∨ (s.play.station i).state = .finished) →
                      t.play.station i = s.play.station i)))

/-! ### Lamps -/

/-- PWM_PERIOD_START forms each lamp's demand by its mode and its on-time by its level, and sends the on-times out, 360 bits of two
crystal periods, station 0 panel 0 first and the most significant bit first; the latch pulse makes the boards hold them and keeps
LLAT high for 1 µs; FLASH_END ends one lamp's flash. LCLK, LDAT and LLAT are low while RST_N is low. That a put row sets the
countdown to 1,000, that the latch is taken at any time and FLASH_END at any remaining time is entry 4's choice, that a lamp not in
FLASH stands entry 5's; that the period's start is remembered to the end of its crystal period is entry 37's; LCLK's low half first,
and the levels without supply and between frames, are entry 28's. -/
def Obligations.LampsAreEvaluatedSentAndLatched : Prop :=
  ∀ s : State, s.live = true →
    (∃ t : State, exec .pwmPeriodStart s = .next t
        ∧ (∀ (i : StationId) (j : PanelId),
            let l := (s.play.lamps.get i).get j
            let st := s.play.station i
            let tl := s.play.timeline
            let down : Bool := if st.autoplay then (st.synth.get j).pressed else (s.panel i j).isDown
            let lit : Bool :=
              match l.mode with
              | .off => false
              | .steady _ => true
              | .follow _ => down
              | .flash _ _ _ remaining => decide (0 < remaining)
              | .beat _ period duty phase =>
                decide (tl.state = .running ∧ (tl.t - phase) % (period : Int) < ((period * duty / 4 : Nat) : Int))
            let level : Nat :=
              match l.mode with
              | .off => 0
              | .steady v => v
              | .follow v => v
              | .flash v _ _ _ => v
              | .beat v _ _ _ => v
            let on := if lit then 1000 * level / 15 else 0
            (t.play.lamps.get i).get j = { l with lit := lit, onTime := on } ∧ (t.drive.chain.get i).get j = on)
        ∧ t.drive.countdown = 1000 ∧ t.drive.latched = s.drive.latched ∧ t.drive.shiftLeft = 720
        ∧ t.drive.latchLeft = s.drive.latchLeft ∧ t.play.periodBegun = true
        ∧ { t with
            play := { t.play with lamps := s.play.lamps, periodBegun := s.play.periodBegun }, drive := s.drive } = s)
      ∧ exec .lampChainLatch s = .next { s with drive := { s.drive with latched := s.drive.chain, latchLeft := 12 } }
      ∧ s.pinLlat = decide (0 < s.drive.latchLeft)
      ∧ (∀ u : State, u.live = false → u.pinLdat = false ∧ u.pinLclk = false ∧ u.pinLlat = false)
      ∧ (s.drive.shiftLeft = 0 → s.pinLdat = false ∧ s.pinLclk = false)
      ∧ (∀ (i : StationId) (j : PanelId) (b : Nat) (high : Bool), b < 10 →
          s.drive.shiftLeft + 2 * (90 * i.val + 10 * j.val + b) + high.toNat = 720 →
          s.pinLdat = ((s.drive.chain.get i).get j).testBit (9 - b) ∧ s.pinLclk = high)
      ∧ (∀ (i : StationId) (j : PanelId),
          (∀ v d set remaining, ((s.play.lamps.get i).get j).mode = .flash v d set remaining →
              exec (.flashEnd i j) s = .next { s with play := { s.play with lamps := s.play.lamps.set i ((s.play.lamps.get i).set j { (s.play.lamps.get i).get j with mode := .flash v d set 0 }) } })
            ∧ ((∀ v d set remaining, ((s.play.lamps.get i).get j).mode ≠ .flash v d set remaining) →
                exec (.flashEnd i j) s = .next s))

/-! ### Invariants that every step keeps -/

/-- The report queue, the reply queue and the counts of the line stay within their bounds at every step. -/
def Obligations.EveryStepKeepsTheLineBounded : Prop :=
  ∀ s t : State, s.LineBounded → step s = .next t → t.LineBounded

/-- Every note queue stays lawful at every step: at most 192 records, in order of note time, none after the tail time. -/
def Obligations.EveryStepKeepsTheNoteQueuesLawful : Prop :=
  ∀ s t : State, (∀ i : StationId, (s.play.station i).feed.Lawful) → step s = .next t →
    ∀ i : StationId, (t.play.station i).feed.Lawful

/-- Every tally stays within its ranges at every step: life 0 to 1,000, score 0 to 1,000,000, combo at most max combo. -/
def Obligations.EveryStepKeepsTheTalliesBounded : Prop :=
  ∀ s t : State, (∀ i : StationId, (s.play.station i).tally.Bounded) → step s = .next t →
    ∀ i : StationId, (t.play.station i).tally.Bounded

/-- Every judge configuration stays legal, its windows strictly increasing, and the timeline stays within its ranges. -/
def Obligations.EveryStepKeepsWindowsAndTimelineInRange : Prop :=
  ∀ s t : State, (∀ i : StationId, (s.play.station i).judge.Legal) → s.play.timeline.InRange → step s = .next t →
    (∀ i : StationId, (t.play.station i).judge.Legal) ∧ t.play.timeline.InRange

/-- The stations' items, their states and the timeline's state stay in agreement at every step, and no station that is LOADED or in
play with fail-enable set holds life 0. -/
def Obligations.EveryStepKeepsPlayCoherent : Prop :=
  ∀ s t : State, s.PlayCoherent → step s = .next t → t.PlayCoherent

/-- Panels with their run stamps, channels with their rail counts, lamps with their flash remaining, the scanner's stamps and
counters and the lamp chain stay within their ranges at every step from a state whose T lies in its range. That a rail count is held
at 1,000 is entry 40's choice, that a moved scan stamp is held in the range of T entry 22's reading, and that the bound on the flash
remaining lies one crystal period above section 9.1's range entry 37's. -/
def Obligations.EveryStepKeepsPanelsChannelsAndLampsInRange : Prop :=
  ∀ s t : State,
    (∀ i : StationId, (s.panelStation i).InRange ∧ ∀ j : PanelId, ((s.play.lamps.get i).get j).InRange) →
    s.scanner.InRange → s.drive.InRange → InTimeRange s.play.timeline.t → step s = .next t →
      (∀ i : StationId, (t.panelStation i).InRange ∧ ∀ j : PanelId, ((t.play.lamps.get i).get j).InRange)
        ∧ t.scanner.InRange ∧ t.drive.InRange

/-- The state after power-on meets every invariant. -/
def Obligations.ResetMeetsTheInvariants : Prop :=
  State.reset.LineBounded ∧ State.reset.PlayCoherent ∧ State.reset.play.timeline.InRange ∧ State.reset.scanner.InRange
    ∧ State.reset.drive.InRange
    ∧ ∀ i : StationId, (State.reset.play.station i).feed.Lawful ∧ (State.reset.play.station i).tally.Bounded
      ∧ (State.reset.play.station i).judge.Legal ∧ (State.reset.panelStation i).InRange
      ∧ ∀ j : PanelId, ((State.reset.play.lamps.get i).get j).InRange
end

