-- ==== Sys2Proof/Laws/State.lean ====
section
/-! SUPPORT. One small lemma for each part of the state and each update of it: reading a place of a fixed family after a write
or a map, and what an update of `Play` or `State` leaves as it was. -/

namespace Sys2Proof

variable {α β : Type}

/-! ### Four, Nine, PerResult -/

@[simp] theorem Four.get_set_self (f : Four α) (i : StationId) (a : α) : (f.set i a).get i = a := by
  match i with
  | 0 => rfl
  | 1 => rfl
  | 2 => rfl
  | 3 => rfl

theorem Four.get_set_ne (f : Four α) {i j : StationId} (a : α) (h : j ≠ i) : (f.set i a).get j = f.get j := by
  match i, j with
  | 0, 0 => exact absurd rfl h
  | 1, 1 => exact absurd rfl h
  | 2, 2 => exact absurd rfl h
  | 3, 3 => exact absurd rfl h
  | 0, 1 => rfl
  | 0, 2 => rfl
  | 0, 3 => rfl
  | 1, 0 => rfl
  | 1, 2 => rfl
  | 1, 3 => rfl
  | 2, 0 => rfl
  | 2, 1 => rfl
  | 2, 3 => rfl
  | 3, 0 => rfl
  | 3, 1 => rfl
  | 3, 2 => rfl

theorem Four.get_set (f : Four α) (i j : StationId) (a : α) : (f.set i a).get j = if j = i then a else f.get j := by
  by_cases h : j = i
  · subst h; simp
  · simp [h, Four.get_set_ne f a h]

@[simp] theorem Four.get_all (a : α) (i : StationId) : (Four.all a).get i = a := by
  match i with
  | 0 => rfl
  | 1 => rfl
  | 2 => rfl
  | 3 => rfl

@[simp] theorem Four.get_map (f : Four α) (g : α → β) (i : StationId) : (f.map g).get i = g (f.get i) := by
  match i with
  | 0 => rfl
  | 1 => rfl
  | 2 => rfl
  | 3 => rfl

theorem Four.get_modify (f : Four α) (i j : StationId) (g : α → α) :
    (f.modify i g).get j = if j = i then g (f.get i) else f.get j := Four.get_set f i j _

@[simp] theorem Four.get_modify_self (f : Four α) (i : StationId) (g : α → α) : (f.modify i g).get i = g (f.get i) :=
  Four.get_set_self f i _

theorem Four.get_modify_ne (f : Four α) {i j : StationId} (g : α → α) (h : j ≠ i) : (f.modify i g).get j = f.get j :=
  Four.get_set_ne f _ h

@[simp] theorem Four.set_get (f : Four α) (i : StationId) : f.set i (f.get i) = f := by
  match i with
  | 0 => rfl
  | 1 => rfl
  | 2 => rfl
  | 3 => rfl

@[simp] theorem Four.set_set (f : Four α) (i : StationId) (a b : α) : (f.set i a).set i b = f.set i b := by
  match i with
  | 0 => rfl
  | 1 => rfl
  | 2 => rfl
  | 3 => rfl

/-- Two families with the same places are the same. -/
theorem Four.eq_of_get {f g : Four α} (h : ∀ i, f.get i = g.get i) : f = g := by
  cases f; cases g
  have h0 := h 0; have h1 := h 1; have h2 := h 2; have h3 := h 3
  simp only [Four.get] at h0 h1 h2 h3
  simp [h0, h1, h2, h3]

theorem Four.any_iff (f : Four α) (p : α → Bool) : f.any p = true ↔ ∃ i, p (f.get i) = true := by
  constructor
  · intro h
    simp only [Four.any, Bool.or_eq_true] at h
    rcases h with ((h | h) | h) | h
    exacts [⟨0, h⟩, ⟨1, h⟩, ⟨2, h⟩, ⟨3, h⟩]
  · rintro ⟨i, h⟩
    match i, h with
    | 0, h => simp [Four.any, show p f.v0 = true from h]
    | 1, h => simp [Four.any, show p f.v1 = true from h]
    | 2, h => simp [Four.any, show p f.v2 = true from h]
    | 3, h => simp [Four.any, show p f.v3 = true from h]

theorem Four.any_eq_false (f : Four α) (p : α → Bool) : f.any p = false ↔ ∀ i, p (f.get i) = false := by
  rw [← Bool.not_eq_true, Four.any_iff]
  simp

@[simp] theorem Nine.get_all (a : α) (j : PanelId) : (Nine.all a).get j = a := by
  match j with
  | 0 => rfl
  | 1 => rfl
  | 2 => rfl
  | 3 => rfl
  | 4 => rfl
  | 5 => rfl
  | 6 => rfl
  | 7 => rfl
  | 8 => rfl

@[simp] theorem Nine.get_map (f : Nine α) (g : α → β) (j : PanelId) : (f.map g).get j = g (f.get j) := by
  match j with
  | 0 => rfl
  | 1 => rfl
  | 2 => rfl
  | 3 => rfl
  | 4 => rfl
  | 5 => rfl
  | 6 => rfl
  | 7 => rfl
  | 8 => rfl

@[simp] theorem Nine.get_mapIdx (f : Nine α) (g : PanelId → α → β) (j : PanelId) :
    (f.mapIdx g).get j = g j (f.get j) := by
  match j with
  | 0 => rfl
  | 1 => rfl
  | 2 => rfl
  | 3 => rfl
  | 4 => rfl
  | 5 => rfl
  | 6 => rfl
  | 7 => rfl
  | 8 => rfl

@[simp] theorem Nine.get_set_self (f : Nine α) (j : PanelId) (a : α) : (f.set j a).get j = a := by
  match j with
  | 0 => rfl
  | 1 => rfl
  | 2 => rfl
  | 3 => rfl
  | 4 => rfl
  | 5 => rfl
  | 6 => rfl
  | 7 => rfl
  | 8 => rfl

theorem Nine.get_set (f : Nine α) (i j : PanelId) (a : α) : (f.set i a).get j = if j = i then a else f.get j := by
  revert i j
  have h : ∀ i j : PanelId, (f.set i a).get j = if j = i then a else f.get j := by
    intro i
    match i with
    | 0 => intro j; match j with | 0 | 1 | 2 | 3 | 4 | 5 | 6 | 7 | 8 => rfl
    | 1 => intro j; match j with | 0 | 1 | 2 | 3 | 4 | 5 | 6 | 7 | 8 => rfl
    | 2 => intro j; match j with | 0 | 1 | 2 | 3 | 4 | 5 | 6 | 7 | 8 => rfl
    | 3 => intro j; match j with | 0 | 1 | 2 | 3 | 4 | 5 | 6 | 7 | 8 => rfl
    | 4 => intro j; match j with | 0 | 1 | 2 | 3 | 4 | 5 | 6 | 7 | 8 => rfl
    | 5 => intro j; match j with | 0 | 1 | 2 | 3 | 4 | 5 | 6 | 7 | 8 => rfl
    | 6 => intro j; match j with | 0 | 1 | 2 | 3 | 4 | 5 | 6 | 7 | 8 => rfl
    | 7 => intro j; match j with | 0 | 1 | 2 | 3 | 4 | 5 | 6 | 7 | 8 => rfl
    | 8 => intro j; match j with | 0 | 1 | 2 | 3 | 4 | 5 | 6 | 7 | 8 => rfl
  exact h

theorem Nine.get_set_ne (f : Nine α) {i j : PanelId} (a : α) (h : j ≠ i) : (f.set i a).get j = f.get j := by
  rw [Nine.get_set]; simp [h]

theorem Nine.get_modify (f : Nine α) (i j : PanelId) (g : α → α) :
    (f.modify i g).get j = if j = i then g (f.get i) else f.get j := Nine.get_set f i j _

/-- Two families with the same places are the same. -/
theorem Nine.eq_of_get {f g : Nine α} (h : ∀ j, f.get j = g.get j) : f = g := by
  cases f; cases g
  have h0 := h 0; have h1 := h 1; have h2 := h 2; have h3 := h 3; have h4 := h 4; have h5 := h 5; have h6 := h 6
  have h7 := h 7; have h8 := h 8
  simp only [Nine.get] at h0 h1 h2 h3 h4 h5 h6 h7 h8
  simp [h0, h1, h2, h3, h4, h5, h6, h7, h8]

/-- Every element of a family's list stands at a place. -/
theorem Nine.mem_toList {f : Nine α} {a : α} : a ∈ f.toList ↔ ∃ j, f.get j = a := by
  constructor
  · intro h
    simp only [Nine.toList, List.mem_cons, List.not_mem_nil, or_false] at h
    rcases h with h | h | h | h | h | h | h | h | h
    exacts [⟨0, h.symm⟩, ⟨1, h.symm⟩, ⟨2, h.symm⟩, ⟨3, h.symm⟩, ⟨4, h.symm⟩, ⟨5, h.symm⟩, ⟨6, h.symm⟩, ⟨7, h.symm⟩,
      ⟨8, h.symm⟩]
  · rintro ⟨j, rfl⟩
    match j with
    | 0 => simp [Nine.toList, Nine.get]
    | 1 => simp [Nine.toList, Nine.get]
    | 2 => simp [Nine.toList, Nine.get]
    | 3 => simp [Nine.toList, Nine.get]
    | 4 => simp [Nine.toList, Nine.get]
    | 5 => simp [Nine.toList, Nine.get]
    | 6 => simp [Nine.toList, Nine.get]
    | 7 => simp [Nine.toList, Nine.get]
    | 8 => simp [Nine.toList, Nine.get]

theorem Nine.every_iff (f : Nine α) (p : α → Bool) : f.every p = true ↔ ∀ j, p (f.get j) = true := by
  simp only [Nine.every, List.all_eq_true, Nine.mem_toList]
  constructor
  · intro h j; exact h _ ⟨j, rfl⟩
  · rintro h _ ⟨j, rfl⟩; exact h j

theorem PerResult.get_set (f : PerResult α) (r q : Result) (a : α) :
    (f.set r a).get q = if q = r then a else f.get q := by
  cases r <;> cases q <;> rfl

@[simp] theorem PerResult.get_all (a : α) (r : Result) : (PerResult.all a).get r = a := by cases r <;> rfl

@[simp] theorem PerResult.get_map (f : PerResult α) (g : α → β) (r : Result) : (f.map g).get r = g (f.get r) := by
  cases r <;> rfl

namespace Machine

/-! ### Play: what each update reads back -/

@[simp] theorem Play.station_setStation (p : Play) (i : StationId) (st : Station) :
    (p.setStation i st).station i = st := Four.get_set_self _ _ _

theorem Play.station_setStation_ne (p : Play) {i j : StationId} (st : Station) (h : j ≠ i) :
    (p.setStation i st).station j = p.station j := Four.get_set_ne _ _ h

@[simp] theorem Play.station_modStation (p : Play) (i : StationId) (f : Station → Station) :
    (p.modStation i f).station i = f (p.station i) := Four.get_set_self _ _ _

theorem Play.station_modStation_ne (p : Play) {i j : StationId} (f : Station → Station) (h : j ≠ i) :
    (p.modStation i f).station j = p.station j := Four.get_set_ne _ _ h

@[simp] theorem Play.timeline_modStation (p : Play) (i : StationId) (f : Station → Station) :
    (p.modStation i f).timeline = p.timeline := rfl

@[simp] theorem Play.reports_modStation (p : Play) (i : StationId) (f : Station → Station) :
    (p.modStation i f).reports = p.reports := rfl

@[simp] theorem Play.lamps_modStation (p : Play) (i : StationId) (f : Station → Station) :
    (p.modStation i f).lamps = p.lamps := rfl

@[simp] theorem Play.time_modStation (p : Play) (i : StationId) (f : Station → Station) :
    (p.modStation i f).time = p.time := rfl

@[simp] theorem Play.scoring_modStation (p : Play) (i : StationId) (f : Station → Station) :
    (p.modStation i f).scoring = p.scoring := rfl

@[simp] theorem Play.station_report (p : Play) (b : ReportBody) (i : StationId) :
    (p.report b).station i = p.station i := rfl

@[simp] theorem Play.stations_report (p : Play) (b : ReportBody) : (p.report b).stations = p.stations := rfl

@[simp] theorem Play.timeline_report (p : Play) (b : ReportBody) : (p.report b).timeline = p.timeline := rfl

@[simp] theorem Play.lamps_report (p : Play) (b : ReportBody) : (p.report b).lamps = p.lamps := rfl

@[simp] theorem Play.time_report (p : Play) (b : ReportBody) : (p.report b).time = p.time := rfl

@[simp] theorem Play.reports_report (p : Play) (b : ReportBody) :
    (p.report b).reports = p.reports.push { stamp := p.time, body := b } := rfl

@[simp] theorem Play.timeline_modTimeline (p : Play) (f : Timeline → Timeline) :
    (p.modTimeline f).timeline = f p.timeline := rfl

@[simp] theorem Play.station_modTimeline (p : Play) (f : Timeline → Timeline) (i : StationId) :
    (p.modTimeline f).station i = p.station i := rfl

@[simp] theorem Play.stations_modTimeline (p : Play) (f : Timeline → Timeline) :
    (p.modTimeline f).stations = p.stations := rfl

@[simp] theorem Play.reports_modTimeline (p : Play) (f : Timeline → Timeline) :
    (p.modTimeline f).reports = p.reports := rfl

@[simp] theorem Play.station_lampResult (p : Play) (i j : StationId) (m : LaneSet) (r : Result) :
    (p.lampResult i m r).station j = p.station j := rfl

@[simp] theorem Play.timeline_lampResult (p : Play) (i : StationId) (m : LaneSet) (r : Result) :
    (p.lampResult i m r).timeline = p.timeline := rfl

@[simp] theorem Play.reports_lampResult (p : Play) (i : StationId) (m : LaneSet) (r : Result) :
    (p.lampResult i m r).reports = p.reports := rfl

/-! ### State: what each update reads back -/

@[simp] theorem State.pending_modPlay (s : State) (f : Play → Play) : (s.modPlay f).pending = s.pending := rfl

@[simp] theorem State.draws_modPlay (s : State) (f : Play → Play) : (s.modPlay f).draws = s.draws := rfl

@[simp] theorem State.play_modPlay (s : State) (f : Play → Play) : (s.modPlay f).play = f s.play := rfl

@[simp] theorem State.panels_modPlay (s : State) (f : Play → Play) : (s.modPlay f).panels = s.panels := rfl

@[simp] theorem State.scanner_modPlay (s : State) (f : Play → Play) : (s.modPlay f).scanner = s.scanner := rfl

@[simp] theorem State.drive_modPlay (s : State) (f : Play → Play) : (s.modPlay f).drive = s.drive := rfl

@[simp] theorem State.link_modPlay (s : State) (f : Play → Play) : (s.modPlay f).link = s.link := rfl

@[simp] theorem State.localTime_modPlay (s : State) (f : Play → Play) : (s.modPlay f).localTime = s.localTime := rfl

@[simp] theorem State.pending_modLink (s : State) (f : Link → Link) : (s.modLink f).pending = s.pending := rfl

@[simp] theorem State.draws_modLink (s : State) (f : Link → Link) : (s.modLink f).draws = s.draws := rfl

@[simp] theorem State.play_modLink (s : State) (f : Link → Link) : (s.modLink f).play = s.play := rfl

@[simp] theorem State.panels_modLink (s : State) (f : Link → Link) : (s.modLink f).panels = s.panels := rfl

@[simp] theorem State.scanner_modLink (s : State) (f : Link → Link) : (s.modLink f).scanner = s.scanner := rfl

@[simp] theorem State.drive_modLink (s : State) (f : Link → Link) : (s.modLink f).drive = s.drive := rfl

@[simp] theorem State.link_modLink (s : State) (f : Link → Link) : (s.modLink f).link = f s.link := rfl

@[simp] theorem State.link_queueReply (s : State) (r : Reply) :
    (s.queueReply r).link = { s.link with replies := s.link.replies ++ [r] } := rfl

@[simp] theorem State.play_queueReply (s : State) (r : Reply) : (s.queueReply r).play = s.play := rfl

@[simp] theorem State.pending_modPanelStation (s : State) (i : StationId) (f : PanelStation → PanelStation) :
    (s.modPanelStation i f).pending = s.pending := rfl

@[simp] theorem State.draws_modPanelStation (s : State) (i : StationId) (f : PanelStation → PanelStation) :
    (s.modPanelStation i f).draws = s.draws := rfl

@[simp] theorem State.play_modPanelStation (s : State) (i : StationId) (f : PanelStation → PanelStation) :
    (s.modPanelStation i f).play = s.play := rfl

@[simp] theorem State.link_modPanelStation (s : State) (i : StationId) (f : PanelStation → PanelStation) :
    (s.modPanelStation i f).link = s.link := rfl

@[simp] theorem State.scanner_modPanelStation (s : State) (i : StationId) (f : PanelStation → PanelStation) :
    (s.modPanelStation i f).scanner = s.scanner := rfl

@[simp] theorem State.panelStation_modPanelStation (s : State) (i : StationId) (f : PanelStation → PanelStation) :
    (s.modPanelStation i f).panelStation i = f (s.panelStation i) := Four.get_set_self _ _ _

@[simp] theorem State.panelStation_modPlay (s : State) (f : Play → Play) (i : StationId) :
    (s.modPlay f).panelStation i = s.panelStation i := rfl

@[simp] theorem State.pending_setPanel (s : State) (i : StationId) (j : PanelId) (p : Panel) :
    (s.setPanel i j p).pending = s.pending := rfl

@[simp] theorem State.draws_setPanel (s : State) (i : StationId) (j : PanelId) (p : Panel) :
    (s.setPanel i j p).draws = s.draws := rfl

@[simp] theorem State.play_setPanel (s : State) (i : StationId) (j : PanelId) (p : Panel) :
    (s.setPanel i j p).play = s.play := rfl

@[simp] theorem State.link_setPanel (s : State) (i : StationId) (j : PanelId) (p : Panel) :
    (s.setPanel i j p).link = s.link := rfl

@[simp] theorem State.panel_setPanel (s : State) (i : StationId) (j : PanelId) (p : Panel) :
    (s.setPanel i j p).panel i j = p := by simp [State.panel, State.setPanel]

@[simp] theorem State.pending_report (s : State) (b : ReportBody) : (s.report b).pending = s.pending := rfl

@[simp] theorem State.draws_report (s : State) (b : ReportBody) : (s.report b).draws = s.draws := rfl

@[simp] theorem State.play_report (s : State) (b : ReportBody) : (s.report b).play = s.play.report b := rfl

@[simp] theorem State.panels_report (s : State) (b : ReportBody) : (s.report b).panels = s.panels := rfl

@[simp] theorem State.scanner_report (s : State) (b : ReportBody) : (s.report b).scanner = s.scanner := rfl

@[simp] theorem State.link_report (s : State) (b : ReportBody) : (s.report b).link = s.link := rfl

end Machine

end Sys2Proof
end

