-- ==== Sys2Proof/Laws/Ops.lean ====
section
/-! SUPPORT. What each shared operation over requests, operands and queues can do, once each: the taking of a request by a part
that is ready, full or still; stations, selectors and clamped settings; the queueing of a report; a channel's work; the length of a
flash; the stamp of a synthetic press; and the scan of a station whose samples no command carries. -/

namespace Sys2Proof.Machine

/-! ### The taking of a request (R171) -/

/-- The count of a good frame, as `serve` raises it before the owner executes. -/
abbrev State.counted (s : State) : State := s.modLink fun l => { l with accepted := satAdd l.accepted 1 }

/-- A part that is ready executes the request, and the answer is queued. -/
theorem whenLive_serve_ready {kind tag : Byte} {owner : Owner} {s t : State} {a : Answer} (h : s.Ready)
    (ho : owner s.counted = (a, t.counted)) : whenLive (serve kind tag owner) s = t.answered kind tag a := by
  obtain ⟨h1, h2⟩ := h
  have h3 : ¬ (s.counted.link.replies.length ≥ Config.replyCapacity) := Nat.not_le.mpr h2
  simp only [whenLive, h1, if_true, serve, if_neg h3, ho]
  rfl

/-- A part whose reply queue is full loses the request to overrun. -/
theorem whenLive_serve_full {kind tag : Byte} {owner : Owner} {s : State} (h : s.live = true)
    (h8 : 8 ≤ s.link.replies.length) :
    whenLive (serve kind tag owner) s = { s with link := { s.link with
      accepted := satAdd s.link.accepted 1, overruns := satAdd s.link.overruns 1 } } := by
  have h3 : s.counted.link.replies.length ≥ Config.replyCapacity := h8
  simp only [whenLive, h, if_true, serve, if_pos h3]
  rfl

/-- A part without supply or in reset takes nothing. -/
theorem whenLive_still {f : State → State} {s : State} (h : s.live = false) : whenLive f s = s := by simp [whenLive, h]

/-- A part that runs takes the event. -/
theorem whenLive_live {f : State → State} {s : State} (h : s.live = true) : whenLive f s = f s := by simp [whenLive, h]

/-! ### Stations and selectors -/

theorem stationOf_of_eq {b : Byte} {i : StationId} (h : b.toNat = i.val) : stationOf b = some i := by
  have := i.isLt
  simp [stationOf, h]

theorem stationOf_of_gt {b : Byte} (h : 3 < b.toNat) : stationOf b = none := by
  simp [stationOf]; omega

theorem stationOf_eq_some {b : Byte} {i : StationId} (h : stationOf b = some i) : b.toNat = i.val := by
  simp only [stationOf, Option.dite_none_right_eq_some, Option.some.injEq] at h
  obtain ⟨_, h⟩ := h
  rw [← h]

theorem selected_none {b : Byte} (h : 3 < b.toNat) (h' : b ≠ 0xFF) : selected b = none := by
  rw [selected, if_neg h', stationOf_of_gt h]
  rfl

/-- A selector that names stations names exactly those that it is 0xFF for, or that it is the number of. -/
theorem selected_some {b : Byte} (h : b.toNat ≤ 3 ∨ b = 0xFF) :
    ∃ named, selected b = some named ∧ named.Nodup ∧ ∀ i : StationId, i ∈ named ↔ (b = 0xFF ∨ b.toNat = i.val) := by
  by_cases hb : b = 0xFF
  · subst hb
    refine ⟨stationIds, rfl, by decide, fun i => ?_⟩
    simp only [true_or, iff_true]
    revert i; decide
  · have h3 : b.toNat < 4 := by rcases h with h | h <;> [omega; exact absurd h hb]
    refine ⟨[⟨b.toNat, h3⟩], by rw [selected, if_neg hb]; simp [stationOf, h3], by simp, fun i => ?_⟩
    simp only [List.mem_singleton, hb, false_or]
    exact ⟨fun hi => by rw [hi], fun hi => Fin.ext hi.symm⟩

/-! ### Clamped settings -/

/-- A setting is marked clamped exactly when the number lies outside its range. -/
theorem setting_clamped {lo hi n : Nat} (h : lo ≤ hi) : (setting lo hi n).clamped = decide (n < lo ∨ hi < n) := by
  rw [Bool.eq_iff_iff]
  simp only [setting, decide_eq_true_eq]
  unfold clampNat
  omega

@[simp] theorem setting_value (lo hi n : Nat) : (setting lo hi n).value = max lo (min hi n) := rfl

theorem judgeClamped_eq (f : JudgeFields) : judgeClamped f = decide (judgeSettings f ≠
    ⟨f.w1.toNat, f.w2.toNat, f.w3.toNat, f.w4.toNat, f.w5.toNat, f.wm.toNat, f.offset.toInt⟩) := by
  rw [Bool.eq_iff_iff]
  rcases hc : judgeSettings f with ⟨a, b, c, d, e, g, o⟩
  simp only [judgeClamped, hc, Bool.not_eq_true', Bool.and_eq_false_iff, beq_eq_false_iff_ne, decide_eq_true_eq, ne_eq,
    JudgeConfig.mk.injEq, not_and_or]
  tauto

theorem panelsClamped_eq (f : PanelFields) : panelsClamped f = decide (panelSettings f ≠
    ⟨f.tOn.toNat, f.tOff.toNat, f.dOn.toNat, f.dOff.toNat, f.stuckTime.toNat⟩ ∨ ageSetting f ≠ f.occupancyAge.toNat) := by
  rw [Bool.eq_iff_iff]
  rcases hc : panelSettings f with ⟨a, b, c, d, e⟩
  simp only [panelsClamped, hc, Bool.not_eq_true', Bool.and_eq_false_iff, beq_eq_false_iff_ne, decide_eq_true_eq, ne_eq,
    PanelConfig.mk.injEq, not_and_or]
  tauto

theorem scoreRowClamped_eq (f : ScoreField) : scoreRowClamped f
    = decide (1000 < f.points.toNat ∨ f.life.toInt < -1000 ∨ 1000 < f.life.toInt) := by
  rw [Bool.eq_iff_iff]
  simp only [scoreRowClamped, scoreRow, Bool.not_eq_true', Bool.and_eq_false_iff, beq_eq_false_iff_ne,
    decide_eq_true_eq, ne_eq]
  unfold clampInt
  omega

/-! ### The report queue (R183, R184) -/

/-- A queue with room takes the record at its tail. -/
theorem ReportQueue.push_room {q : ReportQueue} (r : Report) (h : q.records.length < 96) :
    q.push r = { q with records := q.records ++ [r] } := by
  simp [ReportQueue.push, Config.reportCapacity, h]

theorem length_dropOldestLow {l l' : List Report} (h : dropOldestLow l = some l') : l'.length + 1 = l.length := by
  induction l generalizing l' with
  | nil => simp [dropOldestLow] at h
  | cons r rs ih =>
    simp only [dropOldestLow] at h
    split at h
    · simp only [Option.some.injEq] at h
      simp [← h]
    · simp only [Option.map_eq_some_iff] at h
      obtain ⟨m, hm, rfl⟩ := h
      simp [← ih hm]

/-- A record queued leaves the queue within its bounds, and the press-report enables alone. -/
theorem ReportQueue.push_bounded {q : ReportQueue} (r : Report) (h : q.Bounded) : (q.push r).Bounded := by
  obtain ⟨h1, h2, h3⟩ := h
  unfold ReportQueue.push ReportQueue.lose satAdd Config.reportCapacity Config.lostMax Config.countMax
  split
  · exact ⟨by simp only [List.length_append, List.length_singleton]; omega, h2, h3⟩
  · split
    · exact ⟨h1, by simp only; omega, by simp only; omega⟩
    · refine ⟨?_, by simp only; omega, by simp only; omega⟩
      simp only [List.length_append, List.length_singleton]
      cases hd : dropOldestLow q.records with
      | none => simp only [Option.getD_none, List.length_tail]; omega
      | some l => have := length_dropOldestLow hd; simp only [Option.getD_some]; omega

@[simp] theorem ReportQueue.pressEnables_push (q : ReportQueue) (r : Report) : (q.push r).pressEnables = q.pressEnables := by
  simp only [ReportQueue.push, ReportQueue.lose]
  split
  · rfl
  · split <;> rfl

/-! ### A channel's work (R132, R136) -/

theorem Channel.railCount_seed (c : Channel) : c.seed.railCount = c.railCount := by
  unfold Channel.seed; split <;> rfl

theorem Channel.railCount_learn (c : Channel) : c.learn.railCount = c.railCount := by
  unfold Channel.learn; split <;> rfl

/-- The rail count after a channel's work in a scan. -/
@[simp] theorem Channel.railCount_scan (learning : Bool) (sample : BitVec 12) (c : Channel) :
    (c.scan learning sample).railCount = min 1000 (c.railCount + if isRail sample.toNat then 1 else 0) := by
  simp only [Channel.scan]
  split <;> simp [Channel.railCount_learn, Channel.railCount_seed, Config.railTop]

/-- A block's end leaves every rail count at 0. -/
@[simp] theorem Channel.railCount_blockEnd (c : Channel) : c.blockEnd.railCount = 0 := by
  unfold Channel.blockEnd; split <;> [rfl; split <;> rfl]

/-- A block's end leaves the sample, the baseline and the load. -/
theorem Channel.blockEnd_frame (c : Channel) :
    c.blockEnd.raw = c.raw ∧ c.blockEnd.b16 = c.b16 ∧ c.blockEnd.load = c.load := by
  unfold Channel.blockEnd; split <;> [exact ⟨rfl, rfl, rfl⟩; split <;> exact ⟨rfl, rfl, rfl⟩]

/-! ### A flash (R166) and a synthetic press (R70) -/

/-- A flash lasts its duration, and one crystal period more after a period start. -/
theorem flashPeriods_eq (begun : Bool) (d : Nat) : flashPeriods begun d = d * 12000 + if begun then 1 else 0 := by
  cases begun <;> simp [flashPeriods, Config.crystalPerMicro] <;> omega

/-- No press is made when T lies more than 2,000 µs and more than W5 past the note. -/
theorem synthStamp_none {c : JudgeConfig} {t e : Int} : synthStamp c t e = none ↔ 2000 < t - e ∧ (c.w5 : Int) < t - e := by
  unfold synthStamp Config.settleMargin
  split
  · simp; omega
  · split <;> simp <;> omega

/-- A press is stamped with the note's effective time within 2,000 µs of it, and with T after that. -/
theorem synthStamp_some {c : JudgeConfig} {t e x : Int} (h : synthStamp c t e = some x) :
    x = if t - e ≤ 2000 then e else t := by
  unfold synthStamp Config.settleMargin at h
  split at h
  · rw [if_pos (by omega)]; exact (Option.some.inj h).symm
  · split at h
    · rw [if_neg (by omega)]; exact (Option.some.inj h).symm
    · cases h

/-! ### The scan of a station whose samples no command carries (entry 24) -/

theorem scanFreely_waiting {i : StationId} {s : State} (h : s.scanner.waiting.get i = true) :
    scanFreely i s = { completeScan i (freeSamples s.draws) s with draws := s.draws + 1 } := by simp [scanFreely, h]

theorem scanFreely_in {i : StationId} {s : State} (h : s.scanner.waiting.get i = false) : scanFreely i s = s := by
  simp [scanFreely, h]

end Sys2Proof.Machine
end

