-- ==== Sys2Proof/Laws/Settle.lean ====
section
/-! SUPPORT. What taking edges and deadlines can do, said once: every change a settlement makes to the play blocks is a chain of
the moves of `PlayMove`. Later proofs go over the moves instead of unfolding the judge. -/

namespace Sys2Proof.Machine

/-- What a note keeps from joining to leaving (R21). -/
def NoteRecord.identity (n : NoteRecord) : BitVec 16 × Int × NoteKind × LaneSet := (n.id, n.time, n.kind, n.lanes)

/-- A change of a station's record that leaves its state, outcome, mask, flags and judge configuration as they are. -/
inductive StationMove (scoring : PerResult ScoreRow) : Station → Station → Prop
  /-- A result is applied (R97). -/
  | result (st : Station) (r : Result) : StationMove scoring st { st with tally := st.tally.apply scoring r }
  /-- A stray is counted (R52). -/
  | stray (st : Station) :
    StationMove scoring st { st with tally := { st.tally with strays := satAdd st.tally.strays 1 } }
  /-- A VOID is counted (R31). -/
  | void (st : Station) :
    StationMove scoring st { st with tally := { st.tally with voids := satAdd st.tally.voids 1 } }
  /-- Records leave or are marked; those that stay keep their identity and order (R22). -/
  | queue (st : Station) (q : List NoteRecord)
      (h : (q.map NoteRecord.identity).Sublist (st.feed.queue.map NoteRecord.identity)) :
    StationMove scoring st { st with feed := { st.feed with queue := q } }
  /-- The station starves (R36). -/
  | starve (st : Station) : StationMove scoring st { st with feed := { st.feed with starved := true } }
  /-- An entry is made or changed on a lane (R76, R81, R82). -/
  | hold (st : Station) (lane : PanelId) (e : HoldEntry)
      (h : (st.inPlay = true ∧ LaneSet.has st.mask lane = true) ∨ (st.holds.get lane).isSome) :
    StationMove scoring st { st with holds := st.holds.set lane (some e) }
  /-- An entry leaves (R85). -/
  | unhold (st : Station) (lane : PanelId) : StationMove scoring st { st with holds := st.holds.set lane none }
  /-- A synthetic press (R68). -/
  | synth (st : Station) (lane : PanelId) (l : SynthLane) (h : st.inPlay = true) :
    StationMove scoring st { st with synth := st.synth.set lane l }
  /-- A synthetic release (R68). -/
  | unsynth (st : Station) (lane : PanelId) :
    StationMove scoring st { st with synth := st.synth.set lane .released }

/-- One move of the play blocks, for station `i`. -/
inductive PlayMove (i : StationId) : Play → Play → Prop
  /-- A report is queued. -/
  | report (p : Play) (b : ReportBody) : PlayMove i p (p.report b)
  /-- A result reaches the lamps (R166). -/
  | lamps (p : Play) (m : LaneSet) (r : Result) : PlayMove i p (p.lampResult i m r)
  /-- The station's record changes, its state kept. -/
  | station (p : Play) (f : Station → Station) (h : StationMove p.scoring (p.station i) (f (p.station i))) :
    PlayMove i p (p.modStation i f)
  /-- The station clears, and the auto-stop follows (R9, R17). -/
  | clear (p : Play) (hd : (p.station i).state = .draining) (hn : (p.station i).noNotes = true)
      (he : (p.station i).endReached p.time = true) : PlayMove i p (p.finish i .cleared).autoStop
  /-- The station fails, and the auto-stop follows (R11, R17). -/
  | fail (p : Play) (h : (p.station i).inPlay = true) : PlayMove i p (p.failStation i)

/-- A chain of moves for station `i`. -/
abbrev PlayMoves (i : StationId) : Play → Play → Prop := Relation.ReflTransGen (PlayMove i)

/-- A chain of moves for any of the stations. -/
abbrev AnyMoves : Play → Play → Prop := Relation.ReflTransGen fun p q => ∃ i, PlayMove i p q

/-- What every move keeps, a chain of moves keeps. -/
theorem PlayMoves.keeps {i : StationId} {P : Play → Prop} (h : ∀ p q, PlayMove i p q → P p → P q) {p q : Play}
    (hm : PlayMoves i p q) (hp : P p) : P q := by
  induction hm with
  | refl => exact hp
  | tail _ hq ih => exact h _ _ hq ih

/-- What every move of every station keeps, a chain of moves keeps. -/
theorem AnyMoves.keeps {P : Play → Prop} (h : ∀ i p q, PlayMove i p q → P p → P q) {p q : Play}
    (hm : AnyMoves p q) (hp : P p) : P q := by
  induction hm with
  | refl => exact hp
  | tail _ hq ih => obtain ⟨i, hq⟩ := hq; exact h i _ _ hq ih

theorem PlayMoves.any {i : StationId} {p q : Play} (h : PlayMoves i p q) : AnyMoves p q := by
  induction h with
  | refl => exact .refl
  | tail _ hq ih => exact ih.tail ⟨i, hq⟩

/-! ### Small operations -/

section

variable (p : Play) (i : StationId)

theorem move {q r : Play} (h : PlayMoves i q r) {t : Play} (h' : PlayMove i r t) : PlayMoves i q t := h.tail h'

theorem Play.report_moves (b : ReportBody) : PlayMoves i p (p.report b) := .single (.report p b)

theorem Play.giveResult_moves (m : LaneSet) (r : Result) : PlayMoves i p (p.giveResult i m r) :=
  (Relation.ReflTransGen.single (.station p (fun st => { st with tally := st.tally.apply p.scoring r }) (.result _ r))).tail
    (.lamps _ m r)

theorem Play.reportJudge_moves (id : BitVec 16) (m : LaneSet) (r : Result) (d : Option Int) :
    PlayMoves i p (p.reportJudge i id m r d) := p.report_moves i _

theorem Play.tailResult_moves (id : BitVec 16) (lane : PanelId) (r : Result) :
    PlayMoves i p (p.tailResult i id lane r) := (p.giveResult_moves i _ r).trans (Play.report_moves _ i _)

theorem Play.unhold_moves (lane : PanelId) : PlayMoves i p (p.setHold i lane none) :=
  .single (.station p _ (.unhold _ lane))

theorem Play.setHold_moves (lane : PanelId) (e : HoldEntry)
    (h : ((p.station i).inPlay = true ∧ LaneSet.has (p.station i).mask lane = true)
      ∨ ((p.station i).holds.get lane).isSome) : PlayMoves i p (p.setHold i lane (some e)) :=
  .single (.station p _ (.hold _ lane e h))

theorem Play.drainTest_moves : PlayMoves i p (p.drainTest i) := by
  unfold Play.drainTest
  by_cases h : (p.station i).state = .draining ∧ (p.station i).noNotes = true
      ∧ (p.station i).endReached p.time = true
  · simp only [h, decide_true, Bool.and_self, if_true]
    exact .single (.clear p h.1 h.2.1 h.2.2)
  · rw [if_neg (by simpa [and_assoc] using h)]

theorem Play.feedTest_moves (before : Nat) : PlayMoves i p (p.feedTest i before) := by
  unfold Play.feedTest
  simp only
  split
  · exact p.report_moves i _
  · exact .refl

theorem Play.afterLeaving_moves (before : Nat) : PlayMoves i p (p.afterLeaving i before) :=
  (p.feedTest_moves i before).trans (Play.drainTest_moves _ i)

theorem Play.failStation_moves (h : (p.station i).inPlay = true) : PlayMoves i p (p.failStation i) :=
  .single (.fail p h)

theorem Play.closeSettlement_moves (before : Nat) (h : (p.station i).inPlay = true) :
    PlayMoves i p (p.closeSettlement i before) := by
  unfold Play.closeSettlement
  split
  · exact p.failStation_moves i h
  · exact p.afterLeaving_moves i before

/-! ### State kept by the small operations -/

@[simp] theorem Play.inPlay_giveResult (m : LaneSet) (r : Result) :
    ((p.giveResult i m r).station i).inPlay = (p.station i).inPlay := by
  simp [Play.giveResult, Station.inPlay]

@[simp] theorem Play.inPlay_removeRecord (k : Nat) :
    ((p.removeRecord i k).station i).inPlay = (p.station i).inPlay := by
  simp [Play.removeRecord, Station.inPlay]

@[simp] theorem Play.inPlay_reportJudge (id : BitVec 16) (m : LaneSet) (r : Result) (d : Option Int) :
    ((p.reportJudge i id m r d).station i).inPlay = (p.station i).inPlay := by simp [Play.reportJudge]

@[simp] theorem Play.inPlay_tailResult (id : BitVec 16) (lane : PanelId) (r : Result) :
    ((p.tailResult i id lane r).station i).inPlay = (p.station i).inPlay := by
  simp [Play.tailResult, Play.reportHoldEnd]

@[simp] theorem Play.inPlay_setHold (lane : PanelId) (e : Option HoldEntry) :
    ((p.setHold i lane e).station i).inPlay = (p.station i).inPlay := by simp [Play.setHold, Station.inPlay]

@[simp] theorem Play.mask_giveResult (m : LaneSet) (r : Result) :
    ((p.giveResult i m r).station i).mask = (p.station i).mask := by simp [Play.giveResult, Station.mask]

@[simp] theorem Play.mask_removeRecord (k : Nat) :
    ((p.removeRecord i k).station i).mask = (p.station i).mask := by simp [Play.removeRecord, Station.mask]

@[simp] theorem Play.mask_reportJudge (id : BitVec 16) (m : LaneSet) (r : Result) (d : Option Int) :
    ((p.reportJudge i id m r d).station i).mask = (p.station i).mask := by simp [Play.reportJudge]

/-! ### Records -/

theorem Play.removeRecord_moves (k : Nat) : PlayMoves i p (p.removeRecord i k) := by
  refine .single (.station p _ (.queue _ _ ?_))
  exact (List.eraseIdx_sublist _ _).map _

theorem Play.updateRecord_moves (k : Nat) (f : NoteRecord → NoteRecord)
    (h : ∀ n, (f n).identity = n.identity) : PlayMoves i p (p.updateRecord i k f) := by
  refine .single (.station p _ (.queue _ _ ?_))
  have : ((p.station i).feed.queue.modify k f).map NoteRecord.identity
      = (p.station i).feed.queue.map NoteRecord.identity := by
    apply List.ext_getElem
    · simp
    · intro n h1 h2
      simp only [List.getElem_map, List.getElem_modify]
      split
      · exact h _
      · rfl
  rw [this]

theorem touchMines_identity (c : JudgeConfig) (lane : PanelId) (t : Int) (q : List NoteRecord) :
    (touchMines c lane t q).map NoteRecord.identity = q.map NoteRecord.identity := by
  simp only [touchMines, List.map_map]
  apply List.map_congr_left
  intro n _
  simp only [Function.comp]
  split <;> rfl

/-! ### Settlements -/

theorem Play.settleTail_moves (lane : PanelId) (r : Result) (h : (p.station i).inPlay = true) :
    PlayMoves i p (p.settleTail i lane r) := by
  unfold Play.settleTail
  split
  · exact .refl
  · rename_i e _
    have h1 := (p.tailResult_moves i e.id lane r).trans (Play.unhold_moves _ i lane)
    simp only
    split
    · exact h1.trans (Play.failStation_moves _ i (by simpa using h))
    · exact h1.trans (Play.drainTest_moves _ i)

theorem Play.settleReached_moves (lane : PanelId) (h : (p.station i).inPlay = true) :
    PlayMoves i p (p.settleReached i lane) := by
  unfold Play.settleReached
  split
  · exact .refl
  · split
    · exact .refl
    · split
      · exact p.settleTail_moves i lane _ h
      · exact .refl

theorem Play.settleTap_moves (k : Nat) (n : NoteRecord) (r : Result) (d : Option Int)
    (h : (p.station i).inPlay = true) : PlayMoves i p (p.settleTap i k n r d) :=
  (((p.removeRecord_moves i k).trans (Play.giveResult_moves _ i _ r)).trans (Play.reportJudge_moves _ i _ _ _ _)).trans
    (Play.closeSettlement_moves _ i _ (by simpa using h))

theorem Play.pressTap_moves (k : Nat) (n : NoteRecord) (lane : PanelId) (d : Int)
    (h : (p.station i).inPlay = true) : PlayMoves i p (p.pressTap i k n lane d) := by
  unfold Play.pressTap
  simp only
  split
  · exact p.settleTap_moves i k n _ _ h
  · exact p.updateRecord_moves i k _ fun _ => rfl

/-- A station that the finishing test leaves with an entry is still in play. -/
theorem Play.drainTest_holding (h : (p.station i).noNotes = false) : p.drainTest i = p := by
  simp [Play.drainTest, h]

@[simp] theorem Play.station_feedTest (before : Nat) (j : StationId) :
    (p.feedTest i before).station j = p.station j := by
  unfold Play.feedTest
  simp only
  split
  · simp [Play.reportFeed]
  · rfl

theorem noNotes_of_hold {st : Station} {lane : PanelId} (h : (st.holds.get lane).isSome) : st.noNotes = false := by
  rw [← Bool.not_eq_true]
  intro hn
  simp only [Station.noNotes, Station.noHolds, Bool.and_eq_true, Nine.every_iff] at hn
  have := hn.2 lane
  simp_all

theorem Play.pressHead_moves (k : Nat) (n : NoteRecord) (lane : PanelId) (t d e : Int) (isRoll down : Bool)
    (h : (p.station i).inPlay = true) (hm : LaneSet.has (p.station i).mask lane = true) :
    PlayMoves i p (p.pressHead i k n lane t d e isRoll down) := by
  unfold Play.pressHead
  simp only
  have h1 := (p.giveResult_moves i n.lanes ((p.station i).judge.grade d)).trans
    (Play.reportJudge_moves _ i n.id n.lanes ((p.station i).judge.grade d) (some d))
  generalize hq : (p.giveResult i n.lanes ((p.station i).judge.grade d)).reportJudge i n.id n.lanes
    ((p.station i).judge.grade d) (some d) = q at h1
  have hi : (q.station i).inPlay = true := by rw [← hq]; simpa using h
  have hk : LaneSet.has (q.station i).mask lane = true := by rw [← hq]; simpa using hm
  split
  · exact h1.trans (q.failStation_moves i hi)
  · have h2 := h1.trans (q.removeRecord_moves i k)
    have hi2 : ((q.removeRecord i k).station i).inPlay = true := by simpa using hi
    have hk2 : LaneSet.has ((q.removeRecord i k).station i).mask lane = true := by simpa using hk
    generalize q.removeRecord i k = q2 at h2 hi2 hk2
    split
    · exact (h2.trans (q2.tailResult_moves i n.id lane .held)).trans
        (Play.closeSettlement_moves _ i _ (by simpa using hi2))
    · generalize makeEntry q2 (q2.station i) n isRoll down t _ = entry
      have h3 := h2.trans (q2.setHold_moves i lane entry (.inl ⟨hi2, hk2⟩))
      have hs : ((q2.setHold i lane (some entry)).station i).noNotes = false :=
        noNotes_of_hold (lane := lane) (by simp [Play.setHold])
      have hi3 : ((q2.setHold i lane (some entry)).station i).inPlay = true := by simpa using hi2
      generalize q2.setHold i lane (some entry) = q3 at h3 hs hi3
      refine (h3.trans (q3.afterLeaving_moves i _)).trans (Play.settleReached_moves _ i lane ?_)
      unfold Play.afterLeaving
      rw [Play.drainTest_holding _ i (by simpa using hs)]
      simpa using hi3

theorem Play.stray_moves : PlayMoves i p (p.stray i) := by
  by_cases h : (p.station i).feed.starved = true
  · have : p.stray i = p := by
      have h' : (p.stations.get i).feed.starved = true := h
      simp [Play.stray, Play.modStation, Play.setStation, Play.station, h']
    rw [this]
  · unfold Play.stray
    refine .single (.station p _ ?_)
    rw [if_neg h]
    exact .stray _

theorem Play.pressSearch_moves (lane : PanelId) (t : Int) (down : Bool) (h : (p.station i).inPlay = true)
    (hm : LaneSet.has (p.station i).mask lane = true) : PlayMoves i p (p.pressSearch i lane t down) := by
  unfold Play.pressSearch
  simp only
  split
  · exact p.stray_moves i
  · split
    · exact .refl
    · split
      · exact p.pressTap_moves i _ _ _ _ h
      · exact p.pressHead_moves i _ _ _ _ _ _ _ _ h hm
      · exact p.pressHead_moves i _ _ _ _ _ _ _ _ h hm
      · exact .refl

theorem Play.takePress_moves (lane : PanelId) (t : Int) (down : Nine Bool) (h : (p.station i).inPlay = true)
    (hm : LaneSet.has (p.station i).mask lane = true) : PlayMoves i p (p.takePress i lane t down) := by
  unfold Play.takePress
  have h1 : PlayMoves i p (p.modStation i fun st =>
      { st with feed := { st.feed with queue := touchMines st.judge lane t st.feed.queue } }) := by
    refine .single (.station p _ (.queue _ _ ?_))
    rw [touchMines_identity]
  have hi : ((p.modStation i fun st =>
      { st with feed := { st.feed with queue := touchMines st.judge lane t st.feed.queue } }).station i).inPlay = true := by
    simpa [Station.inPlay] using h
  have hk : LaneSet.has ((p.modStation i fun st =>
      { st with feed := { st.feed with queue := touchMines st.judge lane t st.feed.queue } }).station i).mask lane
        = true := by simpa [Station.mask] using hm
  simp only
  generalize (p.modStation i fun st =>
      { st with feed := { st.feed with queue := touchMines st.judge lane t st.feed.queue } }) = q at h1 hi hk
  split
  · rename_i e he
    exact h1.trans (q.setHold_moves i lane _ (.inr (by rw [he]; rfl)))
  · exact h1.trans (q.pressSearch_moves i lane t _ hi hk)

theorem Play.takeRelease_moves (lane : PanelId) (r : Int) (h : (p.station i).inPlay = true) :
    PlayMoves i p (p.takeRelease i lane r) := by
  unfold Play.takeRelease
  split
  · rename_i e he
    split
    · exact (p.setHold_moves i lane _ (.inr (by rw [he]; rfl))).trans
        (Play.settleReached_moves _ i lane (by simpa using h))
    · exact .refl
  · exact .refl

theorem Station.offered_iff {st : Station} {lane : PanelId} {b : Bool} :
    st.offered lane b = true ↔ st.inPlay = true ∧ LaneSet.has st.mask lane = true ∧ b = st.autoplay := by
  simp [Station.offered, and_assoc]

theorem Play.offerPress_moves (lane : PanelId) (stamp : Int) (b : Bool) (down : Nine Bool) :
    PlayMoves i p (p.offerPress i lane stamp b down) := by
  unfold Play.offerPress
  split
  · rename_i h
    obtain ⟨hi, hm, -⟩ := Station.offered_iff.mp h
    exact p.takePress_moves i lane _ down hi hm
  · exact .refl

theorem Play.offerRelease_moves (lane : PanelId) (stamp : Int) (b : Bool) :
    PlayMoves i p (p.offerRelease i lane stamp b) := by
  unfold Play.offerRelease
  split
  · rename_i h
    exact p.takeRelease_moves i lane _ (Station.offered_iff.mp h).1
  · exact .refl

theorem Play.closeHead_moves (k : Nat) (n : NoteRecord) (h : (p.station i).inPlay = true) :
    PlayMoves i p (p.closeHead i k n) := by
  unfold Play.closeHead
  simp only
  have h1 := (p.giveResult_moves i n.lanes .miss).trans (Play.reportJudge_moves _ i n.id n.lanes .miss none)
  have hi : (((p.giveResult i n.lanes .miss).reportJudge i n.id n.lanes .miss none).station i).inPlay = true := by
    simpa using h
  generalize (p.giveResult i n.lanes .miss).reportJudge i n.id n.lanes .miss none = q at h1 hi
  split
  · exact h1.trans (q.failStation_moves i hi)
  · exact ((h1.trans (q.removeRecord_moves i k)).trans (Play.tailResult_moves _ i n.id n.lane .dropped)).trans
      (Play.closeSettlement_moves _ i _ (by simpa using hi))

theorem Play.checkMine_moves (k : Nat) (n : NoteRecord) (down : Nine Bool) :
    PlayMoves i p (p.checkMine i k n down) := p.updateRecord_moves i k _ fun _ => rfl

theorem Play.closeMine_moves (k : Nat) (n : NoteRecord) (h : (p.station i).inPlay = true) :
    PlayMoves i p (p.closeMine i k n) := by
  unfold Play.closeMine
  exact (((p.removeRecord_moves i k).trans (Play.giveResult_moves _ i _ _)).trans (Play.report_moves _ i _)).trans
    (Play.closeSettlement_moves _ i _ (by simpa [Play.reportMine] using h))

theorem Play.synthPress_moves (lane : PanelId) (stamp release : Int) (down : Nine Bool) :
    PlayMoves i p (p.synthPress i lane stamp release down) := by
  unfold Play.synthPress
  split
  · rename_i h
    refine Relation.ReflTransGen.trans (.single (.station p _ ?_)) (Play.offerPress_moves _ i lane stamp true down)
    exact .synth _ lane _ h
  · exact .refl

theorem Play.synthPresses_moves (stamp release : Int) (down : Nine Bool) (lanes : List PanelId) :
    PlayMoves i p (p.synthPresses i stamp release down lanes) := by
  induction lanes generalizing p with
  | nil => exact .refl
  | cons lane lanes ih => exact (p.synthPress_moves i lane stamp release down).trans (ih _)

theorem Play.pressNote_moves (k : Nat) (n : NoteRecord) (down : Nine Bool) :
    PlayMoves i p (p.pressNote i k n down) := by
  unfold Play.pressNote
  simp only
  have h1 := p.updateRecord_moves i k (fun n => { n with pressTaken := true }) fun _ => rfl
  split
  · exact h1
  · exact h1.trans (Play.synthPresses_moves _ i _ _ _ _)

theorem Play.releaseLane_moves (lane : PanelId) (v : Int) : PlayMoves i p (p.releaseLane i lane v) :=
  Relation.ReflTransGen.trans (.single (.station p _ (.unsynth _ lane))) (Play.offerRelease_moves _ i lane _ true)

theorem Play.pressRoll_moves (lane : PanelId) (v : Int) (down : Nine Bool) :
    PlayMoves i p (p.pressRoll i lane v down) := by
  unfold Play.pressRoll
  split
  · exact .refl
  · rename_i e he
    exact (p.setHold_moves i lane _ (.inr (by rw [he]; rfl))).trans (Play.synthPress_moves _ i lane _ _ down)

theorem Play.starve_moves : PlayMoves i p (p.starve i) :=
  Relation.ReflTransGen.trans (.single (.station p _ (.starve _))) (Play.report_moves _ i _)

theorem Play.withRecord_moves (k : Nat) (f : NoteRecord → Play) (h : ∀ n, PlayMoves i p (f n)) :
    PlayMoves i p (p.withRecord i k f) := by
  unfold Play.withRecord
  split
  · exact .refl
  · exact h _

/-- A deadline of a station in play is taken by moves of that station. -/
theorem Play.takeDue_moves (down : Nine Bool) (d : Due) (h : (p.station i).inPlay = true) :
    PlayMoves i p (p.takeDue i down d) := by
  unfold Play.takeDue
  split
  · exact p.withRecord_moves i _ _ fun n => p.settleTap_moves i _ n _ _ h
  · exact p.withRecord_moves i _ _ fun n => p.closeHead_moves i _ n h
  · exact p.withRecord_moves i _ _ fun n => p.checkMine_moves i _ n down
  · exact p.withRecord_moves i _ _ fun n => p.closeMine_moves i _ n h
  · exact p.settleTail_moves i _ _ h
  · exact p.settleTail_moves i _ _ h
  · exact p.releaseLane_moves i _ _
  · exact p.pressRoll_moves i _ _ down
  · exact p.withRecord_moves i _ _ fun n => p.pressNote_moves i _ n down
  · exact p.starve_moves i

/-- A station out of play has no deadline. -/
theorem Play.dues_of_not_inPlay (h : (p.station i).inPlay = false) : p.dues i = [] := by simp [Play.dues, h]

theorem Play.inPlay_of_nextDue {d : Due} (h : p.nextDue i = some d) : (p.station i).inPlay = true := by
  by_contra hn
  rw [Bool.not_eq_true] at hn
  simp [Play.nextDue, p.dues_of_not_inPlay i hn, earliest] at h

theorem Play.inPlay_of_nextJoinDue {d : Due} (h : p.nextJoinDue i = some d) : (p.station i).inPlay = true := by
  by_contra hn
  rw [Bool.not_eq_true] at hn
  simp [Play.nextJoinDue, p.dues_of_not_inPlay i hn, earliest] at h

theorem Play.takeDues_moves (down : Nine Bool) (fuel : Nat) : PlayMoves i p (Play.takeDues i down fuel p) := by
  induction fuel generalizing p with
  | zero => exact .refl
  | succ fuel ih =>
    unfold Play.takeDues
    split
    · exact .refl
    · rename_i d hd
      exact (p.takeDue_moves i down d (p.inPlay_of_nextDue i hd)).trans (ih _)

theorem Play.takeJoinDues_moves (down : Nine Bool) (fuel : Nat) :
    PlayMoves i p (Play.takeJoinDues i down fuel p) := by
  induction fuel generalizing p with
  | zero => exact .refl
  | succ fuel ih =>
    unfold Play.takeJoinDues
    split
    · exact .refl
    · rename_i d hd
      exact (p.takeDue_moves i down d (p.inPlay_of_nextJoinDue i hd)).trans (ih _)

theorem Play.settleStation_moves (down : Nine Bool) : PlayMoves i p (p.settleStation i down) :=
  (p.takeDues_moves i down _).trans (Play.drainTest_moves _ i)

theorem Play.takeIf_moves (down : Nine Bool) (kind : Deadline → Bool) : PlayMoves i p (p.takeIf i down kind) := by
  unfold Play.takeIf
  split
  · rename_i d hd
    split
    · exact p.takeDue_moves i down d (p.inPlay_of_nextDue i hd)
    · exact .refl
  · exact .refl

end

theorem Play.settleStations_moves (p : Play) (down : Four (Nine Bool)) (is : List StationId) :
    AnyMoves p (p.settleStations down is) := by
  induction is generalizing p with
  | nil => exact .refl
  | cons i is ih =>
    unfold Play.settleStations
    refine Relation.ReflTransGen.trans ?_ (ih _)
    split
    · exact (p.settleStation_moves i _).any
    · exact .refl

/-- An advance of T is settled by moves of the stations. -/
theorem Play.settleAll_moves (p : Play) (down : Four (Nine Bool)) : AnyMoves p (p.settleAll down) :=
  p.settleStations_moves down _

end Sys2Proof.Machine
end

