-- ==== Sys2Proof/Tests/Slice0.lean ====
section
/-! SUPPORT. Tests: the smoke test of WellFormed, the worked arithmetic of the spec, one step at a time, and for every statement
with hypotheses a state and operands that meet them, clause by clause, at the ends of their ranges. -/

namespace Sys2Proof.Tests

open Sys2Proof Sys2Proof.Machine

-- One theorem at a time: checked side by side, the kernel evaluations below would each hold a thread of its own.
set_option Elab.async false

/-! ### WellFormed and Decode -/

theorem test_longest_payload_is_well_formed : (Instr.noteBlock 0 (List.replicate 248 0)).wellFormed = true := by decide +kernel

theorem test_longer_payload_is_refused : (Instr.noteBlock 0 (List.replicate 249 0)).wellFormed = false := by decide +kernel

theorem test_no_word_spells_a_command : decodeTableWord 8 0xC3 = none := rfl

/-! ### Worked arithmetic of the spec -/

/-- The check value of the frame check's parameters (R169): "123456789" gives 0x29B1. -/
theorem test_crc_check_value : crc [0x31, 0x32, 0x33, 0x34, 0x35, 0x36, 0x37, 0x38, 0x39] = 0x29B1#16 := by decide +kernel

/-- Section 6.3, worked accumulation at 44,100 Hz: the first two edges. -/
theorem test_audclk_accumulation :
    let a := ({ Timeline.reset with rate := 44100 } : Timeline).accumulate
    a.t = 22 ∧ a.r = 29800 ∧ a.accumulate.t = 45 ∧ a.accumulate.r = 15500 := by decide +kernel

/-- R116: the accepted intervals at 44,100 Hz are 245 to 299 crystal periods. -/
theorem test_well_spaced_bounds : wellSpaced 245 44100 = true ∧ wellSpaced 299 44100 = true ∧ wellSpaced 244 44100 = false
    ∧ wellSpaced 300 44100 = false := by decide

/-- R134: the table of learning. -/
theorem test_learning : learned 16000 1010 = 16002 ∧ learned 16000 990 = 15998 ∧ learned 16000 1003 = 16000
    ∧ learned 16000 1400 = 16100 := by decide

/-- R135, worked load: three GOOD corners of loads 800, 200 and 500, and a FAULTY one. -/
theorem test_panel_load : panelLoad
    ⟨{ Channel.reset with load := 800 }, { Channel.reset with load := 200 },
      { Channel.reset with load := 4095, faulty := true }, { Channel.reset with load := 500 }⟩ = 2000 := by decide

/-- R56: a jump hit at −6,000 and +42,000, and one hit at −30,000 and +30,000. -/
theorem test_worst_hit : worstHit [⟨3, -6000⟩, ⟨5, 42000⟩] = 42000 ∧ worstHit [⟨3, -30000⟩, ⟨5, 30000⟩] = -30000 := by decide

/-- Section 3.13: the scores at E = 3, 5, 7 and 10 of M = 18. -/
theorem test_normalized : normalized 3 18 = 166666 ∧ normalized 5 18 = 277777 ∧ normalized 7 18 = 388888
    ∧ normalized 10 18 = 555555 := by decide

/-- Section 9.5: the on-times of levels 15, 10 and 8. -/
theorem test_on_time : onTimeOf true 15 = 1000 ∧ onTimeOf true 10 = 666 ∧ onTimeOf true 8 = 533 ∧ onTimeOf false 8 = 0 := by
  decide

/-- Section 9.5: UP's lamp at T = 12,124,900, 12,125,000 and, in the lead-in, −1,880,000. -/
theorem test_beat :
    let at_ (t : Int) := beatLit { Timeline.reset with state := .running, t := t } 500000 1 0
    at_ 12124900 = true ∧ at_ 12125000 = false ∧ at_ (-1880000) = true := by decide

/-- R177: the reply of GET_STATUS section 3 is no longer than a payload can be. -/
theorem test_lamp_section_fits :
    (((State.reset.play.lamps.get 0).toList.flatMap Lamp.bytes).length + 2 + 3 ≤ 248) := by decide +kernel

/-! ### One step on a small state -/

/-- The state that an outcome answers. -/
def after (s : State) : Host.Outcome State Fault Refusal → State
  | .next t => t
  | _ => s

def withTimeline (f : Timeline → Timeline) (s : State) : State := s.modPlay fun p => p.modTimeline f

def withStation (i : StationId) (f : Station → Station) (s : State) : State := s.modPlay fun p => p.modStation i f

/-- A tap on lane 0 at time 0. -/
def tap : NoteRecord :=
  { id := 7, time := 0, kind := .tap, lanes := 1, laneHits := [], touched := false, checkTaken := false, pressTaken := false }

/-- The timeline RUNNING at `t` with station 0 RUNNING on lanes 0 to 2, its queue as given, its horizon far ahead. -/
def running (t : Int) (queue : List NoteRecord) : State :=
  withStation 0 (fun st =>
      { st with
        state := .running, laneMask := some 7
        tally := { st.tally with life := 500, units := 10 }
        feed := { st.feed with queue := queue, horizon := .value 10000000 } })
    (withTimeline (fun tl => { tl with state := .running, t := t }) State.reset)

/-- Station 0 LOADED on lanes 0 to 2. -/
def loaded : State :=
  withStation 0 (fun st => { st with state := .loaded, laneMask := some 7, tally := { st.tally with life := 500 } }) State.reset

/-- Station 0 FINISHED, CLEARED. -/
def finished : State :=
  withStation 0 (fun st =>
    { st with
      state := .finished, outcome := some .cleared, laneMask := some 7
      tally := { st.tally with record := some (st.tally.toRecord .cleared) } }) State.reset

/-- Station 0 DRAINING with nothing outstanding and its song end at 1,000. -/
def draining (t : Int) : State :=
  withStation 0 (fun st => { st with state := .draining, feed := { st.feed with chartComplete := true, songEnd := some 1000 } })
    (running t [])

/-- The state with fail-enable set and station 0's life at `life`. -/
def failable (life : Nat) (s : State) : State :=
  withStation 0 (fun st => { st with failEnable := true, tally := { st.tally with life := life } }) s

/-- The state with an entry on lane 0 of station 0. -/
def holding (e : HoldEntry) (s : State) : State := withStation 0 (fun st => { st with holds := st.holds.set 0 (some e) }) s

/-- The state with station 0 on autoplay. -/
def auto (s : State) : State := withStation 0 (fun st => { st with autoplay := true }) s

/-- The state on EXTERNAL. -/
def external (s : State) : State := withTimeline (fun tl => { tl with source := .external }) s

/-- The state with the receiver at the bytes given. -/
def receiving (bytes : List Byte) : State := State.reset.modLink fun l => { l with rx := .inFrame bytes }

/-- The state with panel 0 of station 0 in the state given and its stuck timer as given. -/
def panelled (ps : PanelState) (timer : Nat) : State :=
  State.reset.setPanel 0 0 { State.reset.panel 0 0 with state := ps, stuckTimer := timer }

/-- The state with `n` replies waiting. -/
def replies (n : Nat) : State :=
  State.reset.modLink fun l => { l with replies := List.replicate n { kind := 0x21, tag := 0, answer := .ok [] } }

/-- The state with the report records given. -/
def reports (rs : List Report) : State := State.reset.modPlay fun p => { p with reports := { p.reports with records := rs } }

def lowReport : Report := { stamp := 0, body := .press 0 0 0 }

def highReport : Report := { stamp := 0, body := .service 0 }

/-- A lamp in FLASH for 10 PWM periods on the results given. -/
def flashing (set : BitVec 10) : Lamp := { Lamp.dark with mode := .flash 15 10 set 0 }

/-- R59: the close of a TAP at e + 180,000 + 2,000 gives MISS, −80 of life. -/
theorem test_note_close : ((after State.reset (exec (.noteClose 0) (running 182000 [tap]))).play.station 0).tally.life = 420 := by
  decide +kernel

/-- R59: it is not reached 1 µs earlier. -/
theorem test_note_close_not_due : after State.reset (exec (.noteClose 0) (running 181999 [tap])) = running 181999 [tap] := by
  decide +kernel

/-- R51, R53: an edge 22,501 µs late is SOLID, and its record leaves. -/
theorem test_press_grade :
    let p := (running 22501 [tap]).play.offerPress 0 0 22501 false (.all false)
    (p.station 0).tally.counts.solid = 1 ∧ (p.station 0).feed.queue = [] := by decide +kernel

/-- R178: the frame of GET_LINK_COUNTS is counted in its own reply. -/
theorem test_link_counts : ((after State.reset (exec (.getLinkCounts 9) State.reset)).link.replies.map Reply.payload)
    = [[0x35, 0, 0, 1, 0, 0, 0, 0, 0, 0, 0, 0, 0, 0, 0]] := by decide +kernel

/-- R174: READY, 12 bytes long, is the part's first frame; it carries cause POWER and revision 0x01. -/
theorem test_first_frame : (after State.reset (exec .txFrameBegin State.reset)).link.tx
    = .sending (frame 0x80 0 [0, 0, 0, 0, 0, 1]) 1440 := by decide +kernel

/-- R166: a result that comes in the crystal period of a PWM period's start, after it, lights ten periods of its own. -/
theorem test_flash_after_period_start :
    let s := after State.reset (exec .pwmPeriodStart
      (State.reset.modPlay fun p => { p with lamps := .all (.all (flashing 32)) }))
    (((s.play.lampResult 0 1 .miss).lamps.get 0).get 0).mode = .flash 15 10 32 120001 := by decide +kernel

/-- R174: after a frame with nothing waiting, one bit time of idle line is still asked for before the next SYNC. -/
theorem test_idle_bit_after_the_last_frame :
    let ended := after State.reset (exec .txFrameEnd
      { reports [] with link := { State.reset.link with tx := .sending [0xC3] 1 } })
    let next := after State.reset (exec .txFrameBegin
      { ended with play := { ended.play with reports := { ended.play.reports with records := [highReport] } } })
    ended.link.rest = 12 ∧ next.link.tx = .sending (frame highReport.body.kind 0 highReport.payload)
      (120 * (frame highReport.body.kind 0 highReport.payload).length + 12) := by decide +kernel

/-- R136: a block ends once: a station whose samples are in has ended it, and the row leaves its channels alone. -/
theorem test_block_ends_once :
    let s : State := { State.reset with scanner :=
      { State.reset.scanner with waiting := ⟨true, false, false, false⟩, blockPos := 999 } }
    let t := after State.reset (exec (.scanComplete 0 (.all (.all 0))) s)
    let u : State := { t with scanner := { t.scanner with blockPos := 999 } }
    after State.reset (exec .channelBlockEnd u) = u := by decide +kernel

/-- R182: the pins of the lamp chain are low while RST_N is low, with a period's bits half sent. -/
theorem test_lamp_pins_low_in_reset :
    let s : State := { State.reset with
      rstN := false, drive := { State.reset.drive with chain := .all (.all 1000), shiftLeft := 361, latchLeft := 3 } }
    s.pinLdat = false ∧ s.pinLclk = false ∧ s.pinLlat = false := by decide +kernel

/-- R172, R181: bits 9 to 15 of a lane field are on the line and are ignored. -/
theorem test_lane_field_upper_bits :
    let n : RawNote := ⟨7, 5, 0, 3, 0⟩
    n.bytes 0x7F = [7, 0, 5, 0, 0, 0, 0, 3, 0xFE] ∧ walkNotes 1 (n.bytes 0x7F) = walkNotes 1 (n.bytes 0) := by decide +kernel

/-- R110, R149: the edge of a run begun at -5 carries its run stamp in RUNNING, and the held T, 3, in STOPPED. -/
theorem test_edge_stamp :
    let told (state : TimelineState) : List ReportBody :=
      let s := withTimeline (fun tl => { tl with state := state, t := 3 }) State.reset
      let s := s.modPlay fun p => { p with reports := { p.reports with records := [], pressEnables := .all true } }
      let s := s.setPanel 0 1 { s.panel 0 1 with state := .pressing (-5) 1 }
      (s.runs (.pressConfirm 0 1)).play.reports.records.map Report.body
    told .running = [.press 0 1 (-5)] ∧ told .stopped = [.press 0 1 3] ∧ told .starting = [.press 0 1 3] := by decide +kernel

/-- R102: the result record carries U. -/
theorem test_record_carries_units : (((running 0 []).play.station 0).tally.toRecord .cleared).units = 10 := by decide +kernel

/-! ### Witnesses: states and operands that meet the hypotheses of the statements, clause by clause -/

theorem witness_StepRunsFrontCommand :
    ({ State.reset with pending := [.scanStart, .txFrameBegin] } : State).pending = [.scanStart, .txFrameBegin] := rfl

/-- Each timer of a crystal period at its end, and one short of it. -/
theorem witness_EmptyQueueIsOneCrystalPeriod :
    (State.reset.pending = [] ∧ State.reset.live = true ∧ ({ State.reset with powered := false } : State).live = false)
      ∧ (State.reset.localTime % 12 = 0 ∧ State.reset.scanner.countdown = 0 ∧ State.reset.drive.countdown = 0)
      ∧ ({ State.reset with localTime := 11 } : State).localTime + 1 = 12
      ∧ 12000 ≤ (withTimeline (fun tl => { tl with lossTimer := 11999 }) (external State.reset)).play.timeline.lossTimer + 1
      ∧ (12000 < (State.reset.modLink fun l => { l with rx := .inFrame [], gapTimer := 12000 }).link.gapTimer + 1
        ∧ (State.reset.modLink fun l => { l with rx := .inFrame [], gapTimer := 11999 }).link.gapTimer + 1 = 12000)
      ∧ (State.reset.modLink fun l => { l with tx := .sending [0xC3] 1 }).link.tx = .sending [0xC3] 1
      ∧ State.reset.play.timeline.source = .holdover := by decide +kernel

theorem witness_EveryCommandCompletes : ({ State.reset with rstN := false } : State).live = false
    ∧ Instr.scanStart ≠ .powerOn ∧ Instr.scanStart ≠ .powerLoss ∧ Instr.scanStart ≠ .pinResetAssert
    ∧ Instr.scanStart ≠ .pinResetRelease := by decide

theorem witness_PowerOnAndPinResetGivePowerOnValues :
    (({ State.reset with rstN := false } : State).rstN = false ∧ ({ State.reset with rstN := false } : State).powered = true)
      ∧ State.reset.rstN = true
      ∧ ({ State.reset with rstN := false, powered := false } : State).powered = false := by decide

theorem witness_Ready : State.reset.Ready ∧ (replies 7).Ready ∧ ¬ (replies 8).Ready := by decide +kernel

theorem witness_ResetPlayClearsPlayAndKeepsConfiguration : (running 5000 [tap]).Ready
    ∧ (running 5000 [tap]).scanner.waiting.any id = false
    ∧ (after State.reset (exec .scanStart (running 5000 [tap]))).scanner.waiting.any id = true := by decide +kernel

theorem witness_ReceiverTakesTheBytesOfAFrame :
    (State.reset.live = true ∧ State.reset.link.rx = .hunting ∧ (0xC2 : Byte) ≠ 0xC3)
      ∧ (receiving []).link.rx = .inFrame [] ∧ (248 : Byte).toNat ≤ 248 ∧ 248 < (249 : Byte).toNat
      ∧ (receiving [0, 1, 2]).link.rx = .inFrame (0 :: [1, 2]) ∧ [1, 2].length + 1 < (0 : Byte).toNat + 4 := by decide

theorem witness_WholeFrameIsExecutedAsItsRequest : State.reset.live = true ∧ State.reset.link.rx = .hunting
    ∧ (Instr.stopSong 9).wellFormed = true ∧ requestFrame (.stopSong 9) = some ⟨0x21, 9, []⟩
    ∧ (Instr.noteBlock 9 [0, 1, 2]).wellFormed = true
    ∧ requestFrame (.noteBlock 9 [0, 1, 2]) = some ⟨0x11, 9, [0, 1, 2]⟩ := by decide

theorem witness_BrokenFramesAreDroppedAndCounted :
    ((receiving [0, 0x21, 9, 0]).live = true ∧ (receiving [0, 0x21, 9, 0]).link.rx = .inFrame (0 :: [0x21, 9, 0])
        ∧ [(0x21 : Byte), 9, 0].length + 1 = (0 : Byte).toNat + 4
        ∧ ([(0x21 : Byte), 9, 0] ++ [0]).drop ((0 : Byte).toNat + 2)
          ≠ crcBytes (0 :: ([(0x21 : Byte), 9, 0] ++ [0]).take ((0 : Byte).toNat + 2)))
      ∧ (receiving []).link.rx = .inFrame [] ∧ State.reset.link.rx = .hunting := by decide +kernel

theorem witness_FramesNotExecutedChangeNoOwner :
    ((replies 8).live = true ∧ requestFrame (.stopSong 9) = some ⟨0x21, 9, []⟩ ∧ 8 ≤ (replies 8).link.replies.length)
      ∧ (State.reset.Ready ∧ State.reset.link.rx = .hunting)
      ∧ (∀ row ∈ catalogue, row.kind ≠ (0x40 : Byte).toNat)
      ∧ (∃ row ∈ catalogue, row.kind = (0x01 : Byte).toNat ∧ (List.replicate 7 (0 : Byte)).length < row.least)
      ∧ (∃ row ∈ catalogue, row.kind = (0x01 : Byte).toNat ∧ row.most < (List.replicate 9 (0 : Byte)).length)
      ∧ (∃ row ∈ catalogue, row.kind = (0x11 : Byte).toNat ∧ (List.replicate 14 (0 : Byte)).length < row.least)
      ∧ (∃ row ∈ catalogue, row.kind = (0x11 : Byte).toNat ∧ row.most < (List.replicate 215 (0 : Byte)).length) := by
  decide +kernel

theorem witness_TransmitterChoosesByTheTable : (State.reset.live = true ∧ State.reset.link.tx = .idle)
    ∧ (State.reset.modLink fun l => { l with tx := .sending [0xC3] 1 }).link.tx = .sending [0xC3] 1
    ∧ (replies 8).link.tx = .idle
    ∧ 120 * [(0xC3 : Byte)].length < 121
    ∧ ([(0xC3 : Byte)][0]? = some 0xC3 ∧ 120 + 120 * 0 + 12 * 0 + 0 = 120 * [(0xC3 : Byte)].length
      ∧ 1 + 120 * 0 + 12 * 9 + 11 = 120 * [(0xC3 : Byte)].length)
    ∧ ({ State.reset with rstN := false } : State).live = false := by decide +kernel

theorem witness_FullReportQueueDisplacesByClass :
    (reports (List.replicate 95 highReport)).play.reports.records.length < 96
      ∧ (96 ≤ (List.replicate 96 highReport).length ∧ lowReport.body.isLow = true)
      ∧ (96 ≤ (List.replicate 3 highReport ++ lowReport :: List.replicate 92 highReport).length
        ∧ highReport.body.isLow = false ∧ ∀ y ∈ List.replicate 3 highReport, y.body.isLow = false)
      ∧ (∀ y ∈ List.replicate 96 highReport, y.body.isLow = false) := by decide +kernel

theorem witness_RefusedRequestChangesOnlyTheLink : requestFrame (.stopSong 9) = some ⟨0x21, 9, []⟩
    ∧ (after State.reset (exec (.stopSong 9) State.reset)).link.replies
      = State.reset.link.replies ++ [{ kind := 0x21, tag := 9, answer := .refuse .busy }]
    ∧ (Answer.refuse .busy).status ≠ .ok := by decide +kernel

theorem witness_ReadingRequestsChangeNothing : (State.reset.Ready ∧ (3 : Byte).toNat = (3 : StationId).val)
    ∧ (finished.Ready ∧ (finished.play.station 0).state = .finished
      ∧ (finished.play.station 0).tally.record = some ((State.reset.play.station 0).tally.toRecord .cleared))
    ∧ (State.reset.play.station 0).state ≠ .finished
    ∧ (1 ≤ (1 : Byte).toNat ∧ (3 : Byte).toNat ≤ 3) ∧ (0 : Byte).toNat = 0 ∧ 3 < (4 : Byte).toNat := by decide +kernel

theorem witness_ConfigTimingStoresRateAndTolerance :
    ((running 0 []).Ready ∧ (running 0 []).play.timeline.state ≠ .stopped)
      ∧ (State.reset.Ready ∧ State.reset.play.timeline.state = .stopped ∧ (7999#32).toNat < 8000 ∧ 192000 < (192001#32).toNat)
      ∧ (8000 ≤ (8000#32).toNat ∧ (192000#32).toNat ≤ 192000) := by decide +kernel

theorem witness_ConfigJudgeStoresTheWindows :
    let f : JudgeFields := ⟨0, 1001, 1002, 1003, 250000, 0, 0⟩
    let g : JudgeFields := ⟨1000, 2000, 3000, 300000, 400000, 0, 0⟩
    State.reset.Ready ∧ (running 0 []).Ready ∧ 3 < (4 : Byte).toNat ∧ (0xFE : Byte) ≠ 0xFF ∧ (3 : Byte).toNat ≤ 3
      ∧ (running 0 []).play.timeline.state ≠ .stopped ∧ State.reset.play.timeline.state = .stopped
      ∧ max 1000 (min 250000 g.w4.toNat) = max 1000 (min 250000 g.w5.toNat)
      ∧ max 1000 (min 250000 f.w1.toNat) < max 1000 (min 250000 f.w2.toNat)
      ∧ max 1000 (min 250000 f.w2.toNat) < max 1000 (min 250000 f.w3.toNat)
      ∧ max 1000 (min 250000 f.w3.toNat) < max 1000 (min 250000 f.w4.toNat)
      ∧ max 1000 (min 250000 f.w4.toNat) < max 1000 (min 250000 f.w5.toNat) := by decide +kernel

theorem witness_ConfigHoldsAndScoringStore : (running 0 []).Ready ∧ (running 0 []).play.timeline.state ≠ .stopped
    ∧ State.reset.Ready ∧ State.reset.play.timeline.state = .stopped := by decide +kernel

/-- A selector of each clause of the statements that name stations by one: 3 and 0xFF name, 4 and 0xFE do not. -/
theorem witness_selectors : (3 : Byte).toNat ≤ 3 ∧ (3 < (4 : Byte).toNat ∧ (4 : Byte) ≠ 0xFF)
    ∧ (3 < (0xFE : Byte).toNat ∧ (0xFE : Byte) ≠ 0xFF) ∧ State.reset.Ready := by decide +kernel

theorem witness_StationSwitchesAreSet : State.reset.Ready ∧ 3 < (4 : Byte).toNat ∧ (0 : Byte).toNat = (0 : StationId).val
    ∧ ((running 0 []).Ready ∧ ((running 0 []).play.station 0).state = .running)
    ∧ ((State.reset.play.station 0).state ≠ .running ∧ (State.reset.play.station 0).state ≠ .draining) := by decide +kernel

theorem witness_SetLampsGivesTheNamedLampsTheMode : 4 < (5 : Byte).toNat ∧ (4 : Byte).toNat ≤ 4 := by decide

theorem witness_LoadStationPreparesAnIdleStation :
    3 < (4 : Byte).toNat ∧ (0 : Byte).toNat = (0 : StationId).val
      ∧ (finished.Ready ∧ (finished.play.station 0).state ≠ .idle)
      ∧ ((running 0 []).Ready ∧ (running 0 []).play.timeline.state ≠ .stopped)
      ∧ (State.reset.Ready ∧ (State.reset.play.station 0).state = .idle ∧ State.reset.play.timeline.state = .stopped)
      ∧ (0xFE00#16).toNat % 512 = 0 ∧ (1#16).toNat % 512 ≠ 0 := by decide +kernel

/-- Each refusal of a block, at the ends of its range: the first bad note at either end of the block, a last note one µs below the
covered-until time, and a queue with one record too many. -/
theorem witness_NoteBlockJoinsALoadedStation_refusals :
    let st := loaded.play.station 0
    let n : RawNote := ⟨7, 0, 0, 1, 0⟩
    let good (n : RawNote) : Bool := decide
      (n.code ≤ 3 ∧ 1 ≤ (LaneSet.lanes n.lanes).length ∧ (n.code ≠ 0 → (LaneSet.lanes n.lanes).length = 1)
        ∧ ((n.code = 1 ∨ n.code = 2) → n.time < n.endTime))
    let inside (n : RawNote) : Bool := decide ((n.lanes &&& ~~~ st.mask) = 0)
    let full := withStation 0 (fun st => { st with feed := { st.feed with queue := List.replicate 191 tap, tailTime := some 0 } })
      loaded
    (loaded.Ready ∧ (0 : Byte).toNat = (0 : StationId).val ∧ 3 < (4 : Byte).toNat
        ∧ 15 ≤ (blockPayload 0 0 [(n, 0)]).length ∧ (blockPayload 0 0 (List.replicate 16 (n, 0x7F))).length ≤ 214)
      ∧ (State.reset.Ready ∧ (State.reset.play.station 0).state = .idle)
      ∧ ((st.state = .loaded ∧ st.feed.chartComplete = false)
        ∧ (0 : Byte).toNat = 0 ∧ 16 < (17 : Byte).toNat ∧ (2 : Byte).toNat ≠ [n].length)
      ∧ (good n = true ∧ good { n with code := 4 } = false ∧ good { n with lanes := 0 } = false
        ∧ good { n with code := 3, lanes := 3 } = false ∧ good { n with code := 1, endTime := 0 } = false
        ∧ good { n with code := 1, endTime := 1 } = true)
      ∧ (inside n = true ∧ inside { n with lanes := 8 } = false)
      ∧ (¬ (n.time ≤ ({ n with time := -1 } : RawNote).time) ∧ (-1 : Int) < n.time ∧ n.time ≤ 0)
      ∧ (let payload := blockPayload 0 0 [(n, 0), (n, 0x7F)]
        payload.length = 24 ∧ (15 ≤ (payload.take 15 ++ []).length ∧ (payload.take 23 ++ []).length ≤ 214)
          ∧ (payload.take 24 ++ List.replicate 190 0).length = 214)
      ∧ (full.Ready ∧ 192 < [n, n].length + (full.play.station 0).feed.queue.length
        ∧ [n].length + (full.play.station 0).feed.queue.length ≤ 192) := by decide +kernel

theorem witness_NoteBlockJoinsALoadedStation :
    let n : RawNote := ⟨7, -2147483648, 0, 3, 0⟩
    let m : RawNote := ⟨8, 2147483646, 1, 4, 2147483647⟩
    (loaded.Ready ∧ (0 : Byte).toNat = (0 : StationId).val ∧ (loaded.play.station 0).state = .loaded
        ∧ (loaded.play.station 0).feed.chartComplete = false ∧ [n, m].getLast? = some m)
      ∧ (n.code ≤ 3 ∧ (LaneSet.lanes n.lanes).length ≥ 1 ∧ (n.lanes &&& ~~~ (loaded.play.station 0).mask) = 0)
      ∧ (m.code ≤ 3 ∧ (LaneSet.lanes m.lanes).length = 1 ∧ m.time < m.endTime
        ∧ (m.lanes &&& ~~~ (loaded.play.station 0).mask) = 0)
      ∧ (loaded.play.station 0).feed.horizon = .unset ∧ (loaded.play.station 0).feed.tailTime = none
      ∧ [n, m].Pairwise (fun a b => a.time ≤ b.time) ∧ m.time ≤ 2147483647
      ∧ [n, m].length + (loaded.play.station 0).feed.queue.length ≤ 192 := by decide +kernel

/-- A RUNNING station that is starved, or whose H lies ahead of T, takes a note at the close of which T has just arrived, and one of
the µs after it. -/
theorem witness_NoteBlockJoinsALoadedStation_running :
    let s := running 182000 []
    let starving := withStation 0 (fun st => { st with feed := { st.feed with starved := true, horizon := .value 0 } }) s
    (s.Ready ∧ (s.play.station 0).state = .running ∧ (s.play.station 0).feed.chartComplete = false
        ∧ (s.play.station 0).feed.horizon = .value 10000000 ∧ s.play.timeline.t < 10000000)
      ∧ (starving.Ready ∧ (starving.play.station 0).feed.starved = true)
      ∧ ((0 : Int) + (s.play.station 0).judge.offset + (s.play.station 0).judge.w5 + 2000 = s.play.timeline.t
        ∧ s.play.timeline.t < (1 : Int) + (s.play.station 0).judge.offset + (s.play.station 0).judge.w5 + 2000) := by
  decide +kernel

/-- NOTE_BLOCK on a station whose horizon and tail time stand: the first note at both. -/
theorem witness_NoteBlockJoinsAfterABlock :
    let s := withStation 0 (fun st => { st with feed := { st.feed with horizon := .value 0, tailTime := some 0, queue := [tap] } })
      loaded
    s.Ready ∧ (s.play.station 0).state = .loaded ∧ (s.play.station 0).feed.horizon = .value 0
      ∧ (0 : Int) ≤ (⟨7, 0, 3, 1, 0⟩ : RawNote).time := by decide +kernel

theorem witness_ChartEndCompletesTheChart :
    (3 < (4 : Byte).toNat ∧ (3 : Byte).toNat = (3 : StationId).val) ∧
    (State.reset.Ready ∧ (State.reset.play.station 0).state = .idle)
      ∧ ((draining 0).Ready ∧ ((draining 0).play.station 0).state = .draining)
      ∧ (finished.Ready ∧ (finished.play.station 0).state = .finished)
      ∧ (loaded.Ready ∧ (loaded.play.station 0).state = .loaded ∧ (loaded.play.station 0).feed.chartComplete = false)
      ∧ ((running 0 [tap]).Ready ∧ ((running 0 [tap]).play.station 0).state = .running
        ∧ ((running 0 [tap]).play.station 0).noNotes = false)
      ∧ ((running 999 []).play.timeline.t < (1000#32).toInt)
      ∧ ((running 1000 []).Ready ∧ ((running 1000 []).play.station 0).noNotes = true
        ∧ ((running 1000 []).play.station 0).feed.chartComplete = false
        ∧ (1000#32).toInt ≤ (running 1000 []).play.timeline.t) := by decide +kernel

theorem witness_AbortSongHandlesEachNamedStation :
    ((0xF0 : Byte) &&& 0x0F) = 0 ∧ ((0xF1 : Byte) &&& 0x0F) ≠ 0 ∧ (running 0 [tap]).Ready
      ∧ (0xF1 : Byte).getLsbD (0 : StationId).val = true ∧ (0xF1 : Byte).getLsbD (1 : StationId).val = false
      ∧ ((running 0 [tap]).play.station 0).state = .running ∧ (loaded.play.station 0).state = .loaded
      ∧ (((draining 0).play.station 0).state = .draining ∧ ((draining 0).play.station 0).noNotes = true)
      ∧ ((holding ⟨7, 500, .holding, none⟩ (draining 0)).play.station 0).noNotes = false
      ∧ (State.reset.play.station 0).state = .idle ∧ (finished.play.station 0).state = .finished := by decide +kernel

theorem witness_ClearStationReturnsToIdle : 3 < (4 : Byte).toNat ∧ (0 : Byte).toNat = (0 : StationId).val
    ∧ (loaded.Ready ∧ (loaded.play.station 0).state ≠ .finished)
    ∧ (finished.Ready ∧ (finished.play.station 0).state = .finished) := by decide +kernel

theorem witness_StartSongWaitsOrStarts :
    ((running 0 []).Ready ∧ (running 0 []).play.timeline.state ≠ .stopped)
      ∧ (State.reset.Ready ∧ ∀ i : StationId, (State.reset.play.station i).state ≠ .loaded)
      ∧ (loaded.Ready ∧ loaded.play.timeline.state = .stopped ∧ (loaded.play.station 0).state = .loaded)
      ∧ (external loaded).play.timeline.source = .external ∧ loaded.play.timeline.source = .holdover := by decide +kernel

theorem witness_FirstEdgeStartsTheSong :
    let s := withTimeline (fun tl => { tl with state := .starting, pendingStart := some (-2000000) }) (external loaded)
    s.live = true ∧ s.play.timeline.source = .external ∧ s.play.timeline.state = .starting
      ∧ s.play.timeline.pendingStart = some (-2000000) ∧ (s.play.station 0).state = .loaded
      ∧ (s.play.station 0).feed.chartComplete = false ∧ (s.play.station 1).state ≠ .loaded := by decide +kernel

/-- R7: a station with a complete chart enters play DRAINING, and one without RUNNING; the reports stand in their order. -/
theorem test_entry_into_play :
    let done := withStation 1 (fun st => { st with
        state := .loaded, laneMask := some 7, feed := { st.feed with chartComplete := true, songEnd := some 9, horizon := .unbounded } })
      (withTimeline (fun tl => { tl with state := .starting, pendingStart := some 0 }) (external loaded))
    let t := after State.reset (exec .audclkEdge done)
    (t.play.station 0).state = .running ∧ (t.play.station 1).state = .draining
      ∧ t.play.reports.records.map Report.body
        = [.ready .power, .timeline .started 0 .external .free 0, .station 0 .running none, .station 1 .draining none,
            .feed 0 192 .unset true] := by decide +kernel

theorem witness_StopSongEndsPlay :
    (State.reset.Ready ∧ State.reset.play.timeline.state = .stopped)
      ∧ (withTimeline (fun tl => { tl with state := .starting, pendingStart := some 0 }) loaded).play.timeline.state = .starting
      ∧ ((running 0 [tap]).Ready ∧ (running 0 [tap]).play.timeline.state = .running
        ∧ ((running 0 [tap]).play.station 0).state = .running ∧ ((running 0 [tap]).play.station 1).inPlay = false)
      ∧ ((draining 0).Ready ∧ (draining 0).play.timeline.state = .running ∧ ((draining 0).play.station 0).state = .draining
        ∧ ((draining 0).play.station 0).noNotes = true)
      ∧ ((holding ⟨7, 500, .holding, none⟩ (draining 0)).play.station 0).noNotes = false := by
  decide +kernel

/-- The boundary of R122 is inclusive: 4,000 µs is good and 4,001 µs is bad. -/
theorem witness_AnchorSortsGoodAndBad :
    (State.reset.Ready ∧ State.reset.play.timeline.state ≠ .running)
      ∧ ((running 0 []).Ready ∧ (running 0 []).play.timeline.state = .running
        ∧ ((4000#32).toInt - (running 0 []).play.timeline.t).natAbs ≤ (running 0 []).play.timeline.tolerance
        ∧ (running 0 []).play.timeline.tolerance < ((4001#32).toInt - (running 0 []).play.timeline.t).natAbs
        ∧ (running 0 []).play.timeline.badAnchors < 2) := by decide +kernel

theorem witness_ThirdBadAnchorStepsTheTimeline :
    let s := withTimeline (fun tl => { tl with badAnchors := 2, lock := .suspect }) (running 100000 [tap])
    s.Ready ∧ s.play.timeline.state = .running ∧ s.play.timeline.badAnchors = 2
      ∧ s.play.timeline.tolerance < ((104001#32).toInt - s.play.timeline.t).natAbs
      ∧ s.play.timeline.tolerance < ((95999#32).toInt - s.play.timeline.t).natAbs
      ∧ (95999#32).toInt < s.play.timeline.t ∧ s.play.timeline.t < (104001#32).toInt := by decide +kernel

theorem witness_AudclkEdgeAccumulatesSongTime :
    ((external State.reset).live = true ∧ (external State.reset).play.timeline.source = .external
        ∧ (external State.reset).play.timeline.state = .stopped)
      ∧ ((external (running 2147483627 [])).play.timeline.state = .running
        ∧ (external (running 2147483627 [])).play.timeline.t
          + (((external (running 2147483627 [])).play.timeline.r + 1000000)
            / (external (running 2147483627 [])).play.timeline.rate : Nat) = 2147483647)
      ∧ 2147483647 < (external (running 2147483628 [])).play.timeline.t
          + (((external (running 2147483628 [])).play.timeline.r + 1000000)
            / (external (running 2147483628 [])).play.timeline.rate : Nat) := by decide +kernel

theorem witness_HoldoverTickAdvancesByOne :
    (State.reset.live = true ∧ State.reset.play.timeline.state ≠ .running)
      ∧ (external (running 0 [])).play.timeline.source = .external
      ∧ ((running 2147483646 []).play.timeline.state = .running ∧ (running 2147483646 []).play.timeline.source = .holdover
        ∧ (running 2147483646 []).play.timeline.t < 2147483647 ∧ (running 2147483646 []).play.timeline.r = 0)
      ∧ (running 2147483647 []).play.timeline.t = 2147483647 := by decide +kernel

/-- At 48,000 Hz the accepted intervals are 225 to 275 crystal periods (R116); one of 224 is ill-spaced. -/
theorem witness_SourceMonitorFollowsTheClock :
    ((external State.reset).live = true ∧ (external State.reset).play.timeline.source = .external
        ∧ (external State.reset).play.timeline.state ≠ .starting)
      ∧ (let s := withTimeline (fun tl => { tl with state := .starting, pendingStart := some (-5) }) (external loaded)
        s.live = true ∧ s.play.timeline.source = .external ∧ s.play.timeline.state = .starting
          ∧ s.play.timeline.pendingStart = some (-5) ∧ (s.play.station 0).state = .loaded ∧ (s.play.station 1).state ≠ .loaded)
      ∧ (9 * 12000000 ≤ 10 * (225 - 0) * State.reset.play.timeline.rate
        ∧ 10 * (275 - 0) * State.reset.play.timeline.rate ≤ 11 * 12000000)
      ∧ (let s := withTimeline (fun tl => { tl with lastEdge := some 0, edgeRun := 255 }) { State.reset with localTime := 225 }
        s.live = true ∧ s.play.timeline.source = .holdover ∧ s.play.timeline.lastEdge = some 0 ∧ s.play.timeline.edgeRun = 255
          ∧ 9 * 12000000 ≤ 10 * (s.localTime - 0) * s.play.timeline.rate
          ∧ 10 * (s.localTime - 0) * s.play.timeline.rate ≤ 11 * 12000000)
      ∧ ¬ (9 * 12000000 ≤ 10 * (224 - 0) * State.reset.play.timeline.rate)
      ∧ (State.reset.live = true ∧ State.reset.play.timeline.source = .holdover ∧ State.reset.play.timeline.lastEdge = none)
      ∧ (withTimeline (fun tl => { tl with edgeRun := 254 }) State.reset).play.timeline.edgeRun + 1 < 256 := by decide +kernel

/-- The close of a TAP, and the end and the deadline of an entry, each at 182,000, in their order of R45; and what is not yet
reached. -/
theorem witness_LowestReachedDeadlineIsTakenNext :
    let e : HoldEntry := ⟨8, 182000, .letGo 182000, none⟩
    ((holding e (running 182000 [tap])).play.nextDue 0 = some (182000, .noteClose 0)
        ∧ (holding e (running 182000 [])).play.nextDue 0 = some (182000, .holdEnd 0)) ∧
    (running 182000 [tap]).play.nextDue 0 = some (182000, .noteClose 0) ∧ (running 181999 [tap]).play.nextDue 0 = none := by
  decide +kernel

theorem witness_DeadlineRowsTouchOneStation :
    Instr.starvation 2 ∈ [Instr.noteClose 2, .headClose 2, .mineCheck 2,
        .mineClose 2, .effectiveEndReached 2, .holdDeadlineReached 2, .syntheticPress 2, .syntheticRelease 2, .rollPress 2,
        .starvation 2, .songEndReached 2]
      ∧ (running 181999 [tap]).play.nextDue 0 = none
      ∧ ((running 182000 [tap]).play.nextDue 0 = some (182000, .noteClose 0)
        ∧ rowOf 0 (.noteClose 0) = .noteClose 0 ∧ rowOf 0 (.noteClose 0) ≠ .headClose 0)
      ∧ (((draining 999).play.station 0).feed.songEnd = some 1000 ∧ (draining 999).play.timeline.t < 1000)
      ∧ ((running 0 []).play.station 0).state ≠ .draining := by decide +kernel

/-- A MISS of −80 takes a life of 80 to 0 and of 81 to 1; a flash set with MISS (bit 5) alone takes a MISS and no CRISP. -/
theorem witness_NoteCloseSettlesMiss :
    let s (life : Nat) := failable life (running 182000 [tap])
    let u (life : Nat) := ((s life).play.station 0).tally.apply (s life).play.scoring .miss
    ((s 80).live = true ∧ (s 80).play.nextDue 0 = some (182000, .noteClose 0)
      ∧ ((s 80).play.station 0).feed.queue[0]? = some tap ∧ ((s 80).play.station 0).failEnable = true ∧ (u 80).life = 0
      ∧ (s 81).play.nextDue 0 = some (182000, .noteClose 0) ∧ (u 81).life = 1)
      ∧ ((flashing 32).mode = .flash 15 10 32 0 ∧ LaneSet.has 1 0 = true ∧ LaneSet.has 1 1 = false
        ∧ (32 : BitVec 10).getLsbD (resultCode .miss) = true ∧ (32 : BitVec 10).getLsbD (resultCode .crisp) = false) := by
  decide +kernel

/-- A head MISS and a tail DROPPED of −80 each: lives of 80, 160 and 161. -/
theorem witness_HeadCloseGivesMissAndDropped :
    let n : NoteRecord := { tap with kind := .hold 500000 }
    let s (life : Nat) := failable life (running 182000 [n])
    let u (life : Nat) := ((s life).play.station 0).tally.apply (s life).play.scoring .miss
    let w (life : Nat) := (u life).apply (s life).play.scoring .dropped
    (s 80).live = true ∧ (s 80).play.nextDue 0 = some (182000, .headClose 0)
      ∧ ((s 80).play.station 0).feed.queue[0]? = some n ∧ ((s 80).play.station 0).failEnable = true ∧ (u 80).life = 0
      ∧ (s 160).play.nextDue 0 = some (182000, .headClose 0) ∧ (u 160).life = 80 ∧ (w 160).life = 0
      ∧ (s 161).play.nextDue 0 = some (182000, .headClose 0) ∧ (w 161).life = 1 := by decide +kernel

/-- A mine's check at its effective time and its close 47,000 µs later; MINE_HIT takes a life of 50 to 0. -/
theorem witness_MinesAreCheckedAndClosed :
    let n : NoteRecord := { tap with kind := .mine }
    let m : NoteRecord := { n with checkTaken := true, touched := true }
    let s (life : Nat) := failable life (running 47000 [m])
    let u (life : Nat) := ((s life).play.station 0).tally.apply (s life).play.scoring .mineHit
    ((running 0 [n]).live = true ∧ (running 0 [n]).play.nextDue 0 = some (0, .mineCheck 0)
        ∧ ((running 0 [n]).play.station 0).feed.queue[0]? = some n)
      ∧ ((s 50).play.nextDue 0 = some (47000, .mineClose 0) ∧ ((s 50).play.station 0).feed.queue[0]? = some m
        ∧ ((s 50).play.station 0).failEnable = true ∧ (u 50).life = 0 ∧ (u 51).life = 1)
      ∧ (running 47000 [{ n with checkTaken := true }]).play.nextDue 0 = some (47000, .mineClose 0) := by decide +kernel

/-- An end and a deadline that are both reached at 1,000, and DROPPED at lives of 80 and 81. -/
theorem witness_TailsAreSettledAtEndAndDeadline :
    let e : HoldEntry := ⟨7, 1000, .letGo 1000, none⟩
    let d : HoldEntry := ⟨7, 2000, .letGo 1000, none⟩
    let s (life : Nat) := failable life (holding d (running 1000 []))
    let u (life : Nat) := ((s life).play.station 0).tally.apply (s life).play.scoring .dropped
    ((holding e (running 1000 [])).live = true ∧ ((holding e (running 1000 [])).play.station 0).holds.get 0 = some e
        ∧ (holding e (running 1000 [])).play.nextDue 0 = some (1000, .holdEnd 0))
      ∧ ((s 80).play.nextDue 0 = some (1000, .holdDeadline 0) ∧ ((s 80).play.station 0).holds.get 0 = some d
        ∧ ((s 80).play.station 0).failEnable = true ∧ (u 80).life = 0 ∧ (u 81).life = 1) := by decide +kernel

/-- A synthetic press at its note's time, 2,000 µs, 2,001 µs, 180,000 µs and 180,001 µs after it; and, with W5 at 1,500, one of
1,800 µs after it, which is not yet closed. -/
theorem witness_SyntheticPressPressesTheLanes :
    let s (t : Int) := auto (running t [tap])
    let narrow := withStation 0 (fun st => { st with judge := { st.judge with w1 := 1000, w2 := 1100, w3 := 1200, w4 := 1300, w5 := 1500 } })
      (s 1800)
    ((s 0).live = true ∧ ((s 0).play.station 0).feed.queue[0]? = some tap ∧ (s 0).play.nextDue 0 = some (0, .synthPress 0)
      ∧ (s 2000).play.nextDue 0 = some (0, .synthPress 0) ∧ (s 2001).play.nextDue 0 = some (0, .synthPress 0)
      ∧ (s 180000).play.nextDue 0 = some (0, .synthPress 0) ∧ (s 180001).play.nextDue 0 = some (0, .synthPress 0)
      ∧ ((s 0).play.station 0).judge.w5 = 180000)
      ∧ (narrow.play.nextDue 0 = some (0, .synthPress 0) ∧ (narrow.play.station 0).judge.w5 = 1500)
      ∧ (((after State.reset (exec (.syntheticPress 0) (s 0))).play.station 0).inPlay = true) := by decide +kernel

theorem witness_SyntheticReleaseAndRollPress :
    let released (s : State) := withStation 0 (fun st => { st with synth := st.synth.set 0 ⟨true, some 1000⟩ }) (auto s)
    let h : HoldEntry := ⟨7, 5000, .holding, none⟩
    let r : HoldEntry := ⟨7, 5000, .rolling 2000, some 1000⟩
    ((released (running 1000 [])).live = true ∧ (released (running 1000 [])).play.nextDue 0 = some (1000, .synthRelease 0)
        ∧ ((released (running 1000 [])).play.station 0).holds.get 0 = none)
      ∧ ((holding h (released (running 1000 []))).play.nextDue 0 = some (1000, .synthRelease 0)
        ∧ ((holding h (released (running 1000 []))).play.station 0).holds.get 0 = some h ∧ h.state = .holding
        ∧ LaneSet.has ((holding h (released (running 1000 []))).play.station 0).mask 0 = true
        ∧ (1000 : Int) < 1000 + ((running 1000 []).play.grace : Int))
      ∧ ((holding r (auto (running 1000 []))).play.nextDue 0 = some (1000, .rollPress 0)
        ∧ ((holding r (auto (running 1000 []))).play.station 0).holds.get 0 = some r ∧ r.state = .rolling 2000
        ∧ LaneSet.has ((holding r (auto (running 1000 []))).play.station 0).mask 0 = true) := by
  decide +kernel

theorem witness_StarvationAndSongEnd :
    ((running 10000000 []).live = true ∧ (running 10000000 []).play.nextDue 0 = some (10000000, .starvation))
      ∧ (((draining 1000).play.station 0).state = .draining ∧ ((draining 1000).play.station 0).noNotes = true
        ∧ ((draining 1000).play.station 0).feed.songEnd = some 1000 ∧ 1000 ≤ (draining 1000).play.timeline.t
        ∧ (draining 1000).play.timeline.state = .running
        ∧ ∀ j : StationId, j ≠ 0 → ((draining 1000).play.station j).inPlay = false) := by decide +kernel

/-- The first and the last microsecond of the 36 selections, and of the rest of the scan period. -/
theorem witness_ScanStartReadsTheStamp :
    let s (countdown : Nat) : State := { State.reset with scanner := { State.reset.scanner with countdown := countdown } }
    (s 250).live = true ∧ (s 250).scanner.countdown + 0 = 250 ∧ (s 35).scanner.countdown + 215 = 250
      ∧ (s 34).scanner.countdown + 216 = 250 ∧ (s 0).scanner.countdown + 250 = 250 := by decide

/-- A scan under way of which station 2's samples alone are not in, at the block's last position but one and its last, in the
learning phase and out of it; and a scan of which station 3's are not in either. -/
theorem witness_ScanCompleteTakesEveryChannel :
    let s (b learn : Nat) (more : Bool) : State := { State.reset with scanner :=
      { State.reset.scanner with waiting := ⟨false, false, true, more⟩, blockPos := b, learnPhase := learn } }
    ((s 0 0 false).live = true ∧ (s 0 0 false).scanner.waiting.get 1 = false ∧ (s 0 0 false).scanner.waiting.get 2 = true)
      ∧ ((s 998 15 false).scanner.waiting.get 2 = true ∧ (s 998 15 false).scanner.blockPos ≠ 999
        ∧ (s 998 15 false).scanner.learnPhase = 15)
      ∧ ((s 999 14 false).scanner.blockPos = 999 ∧ (s 999 14 false).scanner.learnPhase ≠ 15)
      ∧ (∀ k : StationId, k ≠ 2 → (s 0 0 false).scanner.waiting.get k = false)
      ∧ (∃ k : StationId, k ≠ 2 ∧ (s 0 0 true).scanner.waiting.get k = true) := by decide +kernel

/-- A scan that learns or ends a block, of which stations 2 and 3's samples alone are not in; and one that does neither. -/
theorem witness_LearningAndBlockEndChangeTheChannels :
    let s (learn b : Nat) : State := { State.reset with scanner :=
      { State.reset.scanner with waiting := ⟨false, false, true, true⟩, blockPos := b, learnPhase := learn } }
    let c : Channel := { Channel.reset with seedPending := false }
    ((s 14 998).live = true ∧ (s 14 998).scanner.learnPhase ≠ 15 ∧ (s 14 998).scanner.blockPos ≠ 999)
      ∧ ((s 15 998).scanner.learnPhase = 15 ∧ (s 14 999).scanner.blockPos = 999)
      ∧ ((s 15 999).scanner.waiting.get 1 = false ∧ (s 15 999).scanner.waiting.get 2 = true)
      ∧ (c.faulty = false ∧ ({ c with faulty := true } : Channel).faulty = true) := by decide +kernel

/-- D_on is 2 after power-on, so a run of one scan is completed by the present one; with D_on at 1 the present scan is the whole run. -/
theorem witness_PressConfirmMakesThePanelPressed :
    let s := panelled (.pressing 0 1) 0
    let quick := State.reset.setPanel 0 0 { State.reset.panel 0 0 with config := { PanelConfig.default with dOn := 1 } }
    let played := (running 22501 [tap]).setPanel 0 0 { State.reset.panel 0 0 with state := .pressing 22501 1 }
    (s.live = true ∧ (s.panel 0 0).state = .pressing 0 1 ∧ (s.panel 0 0).config.dOn ≤ 1 + 1
        ∧ (s.play.station 0).inPlay = false)
      ∧ (quick.live = true ∧ (quick.panel 0 0).state = .released ∧ (quick.panel 0 0).config.dOn ≤ 1)
      ∧ (State.reset.live = true ∧ (State.reset.panel 0 0).state = .released ∧ 1 < (State.reset.panel 0 0).config.dOn)
      ∧ (played.live = true ∧ (played.play.station 0).state = .running ∧ (played.panel 0 0).state = .pressing 22501 1
        ∧ (played.panel 0 0).config.dOn ≤ 1 + 1) := by decide +kernel

/-- D_off is 3 and the stuck time 20 s after power-on: each row one scan before it is due and when it is. -/
theorem witness_PanelsAreReleasedAndStuck :
    let quick := State.reset.setPanel 0 0
      { State.reset.panel 0 0 with state := .pressed, config := { PanelConfig.default with dOff := 1 } }
    ((panelled (.releasing 0 2) 0).live = true ∧ ((panelled (.releasing 0 2) 0).panel 0 0).state = .releasing 0 2
        ∧ ((panelled (.releasing 0 2) 0).panel 0 0).config.dOff ≤ 2 + 1)
      ∧ (((panelled (.releasing 0 1) 0).panel 0 0).state = .releasing 0 1
        ∧ 1 + 1 < ((panelled (.releasing 0 1) 0).panel 0 0).config.dOff)
      ∧ (quick.live = true ∧ (quick.panel 0 0).state = .pressed ∧ (quick.panel 0 0).config.dOff ≤ 1)
      ∧ (((panelled (.stuck 2) 0).panel 0 0).state = .stuck 2 ∧ ((panelled (.stuck 2) 0).panel 0 0).config.dOff ≤ 2 + 1)
      ∧ (((panelled (.stuck 1) 0).panel 0 0).state = .stuck 1 ∧ 1 + 1 < ((panelled (.stuck 1) 0).panel 0 0).config.dOff)
      ∧ (((panelled .pressed 19999750).panel 0 0).isDown = true
        ∧ ((panelled .pressed 19999750).play.station 0).holds.get 0 = none
        ∧ ((panelled .pressed 19999750).panel 0 0).config.stuckTime * 1000000
          ≤ ((panelled .pressed 19999750).panel 0 0).stuckTimer + 250)
      ∧ ¬ ((panelled .pressed 19999749).panel 0 0).config.stuckTime * 1000000
          ≤ ((panelled .pressed 19999749).panel 0 0).stuckTimer + 250 := by decide +kernel

/-- The occupancy age is 30 s and the combo hold time 3 s after power-on. -/
theorem witness_OccupancyEndsAndTheComboFires :
    let v := State.reset.modPanelStation 0 fun ps => { ps with occupied := true, occupancyTimer := 29999750 }
    let c (abort : Bool) := (panelled .pressed 0).modPanelStation 0 fun ps =>
      { ps with comboLanes := 1, comboTimer := 2999750, comboAbort := abort }
    (v.live = true ∧ (v.panelStation 0).occupied = true ∧ (v.panelStation 0).occupancyAge ≠ 0
        ∧ (∀ j : PanelId, (v.panel 0 j).isDown = false)
        ∧ (v.panelStation 0).occupancyAge * 1000000 ≤ (v.panelStation 0).occupancyTimer + 250)
      ∧ ((c true).live = true ∧ ((c true).panelStation 0).comboLanes ≠ 0 ∧ ((c true).panelStation 0).comboSpent = false
        ∧ (∀ j : PanelId, LaneSet.has ((c true).panelStation 0).comboLanes j = true → ((c true).panel 0 j).isDown = true)
        ∧ ((c true).panelStation 0).comboHold * 1000000 ≤ ((c true).panelStation 0).comboTimer + 250
        ∧ ((c true).panelStation 0).comboAbort = true ∧ ((c false).panelStation 0).comboAbort = false) := by decide +kernel

/-- The first half of the first bit, the second half of the last, and a chain at rest. -/
theorem witness_LampsAreEvaluatedSentAndLatched :
    (State.reset.live = true ∧ ((State.reset.play.lamps.get 0).get 0).mode = .off ∧ State.reset.drive.shiftLeft = 0
        ∧ ({ State.reset with rstN := false } : State).live = false)
      ∧ (flashing 32).mode = .flash 15 10 32 0
      ∧ ((after State.reset (exec .pwmPeriodStart State.reset)).drive.shiftLeft + 2 * (90 * 0 + 10 * 0 + 0) + 0 = 720)
      ∧ ({ State.reset.drive with shiftLeft := 1 } : LampDrive).shiftLeft + 2 * (90 * 3 + 10 * 8 + 9) + 1 = 720 := by
  decide +kernel

theorem witness_EveryStepKeepsTheLineBounded :
    ∃ s t : State, s.LineBounded ∧ step s = .next t := ⟨State.reset, _, by decide, rfl⟩

/-- A step answers a next state from the states of the witnesses below. -/
theorem witness_step (s : State) (h : s.pending = []) : ∃ t : State, step s = .next t := ⟨idle s, by simp [step, h]⟩

theorem witness_EveryStepKeepsTheNoteQueuesLawful :
    let s := withStation 0 (fun st => { st with feed := { st.feed with queue := [tap, tap], tailTime := some 0 } }) loaded
    s.pending = [] ∧ ∀ i : StationId, (s.play.station i).feed.Lawful := by
  refine ⟨rfl, fun i => ?_⟩
  match i with
  | 0 =>
    refine ⟨by decide, by decide, ?_⟩
    show ∀ n ∈ [tap, tap], n.time ≤ 0
    decide
  | 1 => exact ⟨by decide, by decide, rfl⟩
  | 2 => exact ⟨by decide, by decide, rfl⟩
  | 3 => exact ⟨by decide, by decide, rfl⟩

theorem witness_EveryStepKeepsTheTalliesBounded : ∀ i : StationId, (State.reset.play.station i).tally.Bounded := fun i => by
  have h : (State.reset.play.station i).tally = Tally.zero := by revert i; decide
  rw [h]
  exact ⟨fun r => by cases r <;> decide, by decide⟩

theorem witness_EveryStepKeepsWindowsAndTimelineInRange :
    (∀ i : StationId, (State.reset.play.station i).judge.Legal) ∧ State.reset.play.timeline.InRange := by decide

theorem witness_EveryStepKeepsPlayCoherent :
    State.reset.PlayCoherent ∧ loaded.PlayCoherent
      ∧ (withStation 0 (fun st => { st with failEnable := true }) loaded).PlayCoherent :=
  ⟨by decide +kernel, by decide +kernel, by decide +kernel⟩

theorem witness_EveryStepKeepsPanelsChannelsAndLampsInRange :
    (∀ i : StationId, (State.reset.panelStation i).InRange ∧ ∀ j : PanelId, ((State.reset.play.lamps.get i).get j).InRange)
      ∧ State.reset.scanner.InRange ∧ State.reset.drive.InRange ∧ InTimeRange State.reset.play.timeline.t := by
  refine ⟨fun i => ?_, by decide, by decide, by decide⟩
  have h : State.reset.panelStation i = PanelStation.reset := by revert i; decide
  have h' : ∀ j : PanelId, (State.reset.play.lamps.get i).get j = Lamp.dark := by revert i; decide
  refine ⟨?_, fun j => ?_⟩
  · rw [h]
    refine ⟨fun j => ?_, by decide⟩
    have hp : PanelStation.reset.panels.get j
        = { state := .released, stuckTimer := 0, stuckLatch := false, config := .default } := by revert j; decide
    rw [hp]
    exact ⟨trivial, by decide, by decide⟩
  · rw [h' j]
    exact ⟨trivial, by decide⟩

end Sys2Proof.Tests
end

/-! ## Laws of a settlement -/

namespace Sys2Proof.Machine

/-! ### A station alive: no failure stands untaken (R5, R101) -/

/-- A station that is LOADED or in play does not stand at a failed life gauge. -/
def Play.Alive (p : Play) (i : StationId) : Prop :=
  (p.station i).state = .loaded ∨ (p.station i).inPlay = true → ¬ (p.station i).Fails

theorem Play.failing_iff {p : Play} {i : StationId} : p.failing i = true ↔ (p.station i).Fails := by
  simp [Play.failing]

/-- A finished station is alive by its state alone. -/
theorem Play.alive_of_finished {p : Play} {i : StationId} (h : (p.station i).state = .finished) : p.Alive i := by
  simp [Play.Alive, Station.inPlay, h]

theorem Play.alive_of_not_failing {p : Play} {i : StationId} (h : ¬ p.failing i = true) : p.Alive i :=
  fun _ hf => h (Play.failing_iff.mpr hf)

/-- What keeps a station's state, its fail-enable flag and its life keeps it alive. -/
theorem Play.Alive.of_kept {p q : Play} {i : StationId} (h : p.Alive i)
    (hs : (q.station i).state = (p.station i).state) (hf : (q.station i).failEnable = (p.station i).failEnable)
    (hl : (q.station i).tally.life = (p.station i).tally.life) : q.Alive i := by
  simpa [Play.Alive, Station.Fails, Station.inPlay, hs, hf, hl] using h

section

variable {p : Play} {i : StationId}

@[simp] theorem Play.station_stopTimeline (j : StationId) : p.stopTimeline.station j = p.station j := rfl

@[simp] theorem Play.station_autoStop (j : StationId) : p.autoStop.station j = p.station j := by
  unfold Play.autoStop; split <;> rfl

@[simp] theorem Play.station_abandonStart (j : StationId) : p.abandonStart.station j = p.station j := by
  unfold Play.abandonStart; split <;> rfl

@[simp] theorem Play.station_abortTests (j : StationId) : p.abortTests.station j = p.station j := by
  simp [Play.abortTests]

theorem Play.station_finish (o : SongOutcome) : (p.finish i o).station i = { p.station i with
    state := .finished, outcome := some o, synth := .all .released
    tally := { (p.station i).tally with record := some ((p.station i).tally.toRecord o) } } := by
  simp [Play.finish, Play.reportStation]

theorem Play.state_failStation : ((p.failStation i).station i).state = .finished := by
  simp [Play.failStation, Play.discardFinish, Play.station_finish]

/-- The finishing test leaves the station's record or finishes it. -/
theorem Play.Alive.drainTest (h : p.Alive i) : (p.drainTest i).Alive i := by
  unfold Play.drainTest
  dsimp only
  split
  next => exact Play.alive_of_finished (by simp [Play.station_finish])
  next => exact h

theorem Play.Alive.feedTest (h : p.Alive i) (before : Nat) : (p.feedTest i before).Alive i :=
  h.of_kept (by simp) (by simp) (by simp)

theorem Play.closeSettlement_alive (before : Nat) : (p.closeSettlement i before).Alive i := by
  unfold Play.closeSettlement
  split
  next => exact Play.alive_of_finished Play.state_failStation
  next h => exact ((Play.alive_of_not_failing h).feedTest before).drainTest

theorem Play.Alive.settleTail (h : p.Alive i) (lane : PanelId) (r : Result) : (p.settleTail i lane r).Alive i := by
  unfold Play.settleTail
  split
  next => exact h
  next =>
    dsimp only
    split
    next => exact Play.alive_of_finished Play.state_failStation
    next hf => exact (Play.alive_of_not_failing hf).drainTest

theorem Play.Alive.settleReached (h : p.Alive i) (lane : PanelId) : (p.settleReached i lane).Alive i := by
  unfold Play.settleReached
  split
  next => exact h
  next =>
    split
    next => exact h
    next =>
      split
      next => exact h.settleTail lane _
      next => exact h

theorem Play.Alive.updateRecord (h : p.Alive i) (k : Nat) (f : NoteRecord → NoteRecord) :
    (p.updateRecord i k f).Alive i :=
  h.of_kept (by simp [Play.updateRecord]) (by simp [Play.updateRecord]) (by simp [Play.updateRecord])

theorem Play.Alive.setHold (h : p.Alive i) (lane : PanelId) (e : Option HoldEntry) : (p.setHold i lane e).Alive i :=
  h.of_kept (by simp [Play.setHold]) (by simp [Play.setHold]) (by simp [Play.setHold])

theorem Play.Alive.removeRecord (h : p.Alive i) (k : Nat) : (p.removeRecord i k).Alive i :=
  h.of_kept (by simp [Play.removeRecord]) (by simp [Play.removeRecord]) (by simp [Play.removeRecord])

theorem Play.Alive.stray (h : p.Alive i) : (p.stray i).Alive i := by
  refine h.of_kept ?_ ?_ ?_ <;> simp only [Play.stray, Play.station_modStation] <;> split <;> rfl

theorem Play.Alive.pressTap (h : p.Alive i) (k : Nat) (n : NoteRecord) (lane : PanelId) (d : Int) :
    (p.pressTap i k n lane d).Alive i := by
  unfold Play.pressTap
  dsimp only
  split
  next => exact Play.closeSettlement_alive _
  next => exact h.updateRecord k _

theorem Play.pressHead_alive (k : Nat) (n : NoteRecord) (lane : PanelId) (t d e : Int) (isRoll down : Bool) :
    (p.pressHead i k n lane t d e isRoll down).Alive i := by
  unfold Play.pressHead
  dsimp only
  split
  next => exact Play.alive_of_finished Play.state_failStation
  next hf =>
    have hq := (Play.alive_of_not_failing hf).removeRecord k
    split
    next => exact Play.closeSettlement_alive _
    next => exact (((hq.setHold lane _).feedTest _).drainTest).settleReached lane

theorem Play.Alive.pressSearch (h : p.Alive i) (lane : PanelId) (t : Int) (down : Bool) :
    (p.pressSearch i lane t down).Alive i := by
  unfold Play.pressSearch
  dsimp only
  split
  next => exact h.stray
  next =>
    split
    next => exact h
    next =>
      split
      next => exact h.pressTap _ _ _ _
      next => exact Play.pressHead_alive _ _ _ _ _ _ _ _
      next => exact Play.pressHead_alive _ _ _ _ _ _ _ _
      next => exact h

theorem Play.Alive.takePress (h : p.Alive i) (lane : PanelId) (t : Int) (down : Nine Bool) :
    (p.takePress i lane t down).Alive i := by
  unfold Play.takePress
  have hq : Play.Alive (p.modStation i fun st =>
      { st with feed := { st.feed with queue := touchMines st.judge lane t st.feed.queue } }) i :=
    h.of_kept (by simp) (by simp) (by simp)
  dsimp only
  split
  next => exact hq.setHold lane _
  next => exact hq.pressSearch lane t _

theorem Play.Alive.offerPress (h : p.Alive i) (lane : PanelId) (stamp : Int) (b : Bool) (down : Nine Bool) :
    (p.offerPress i lane stamp b down).Alive i := by
  unfold Play.offerPress
  split
  next => exact h.takePress lane _ down
  next => exact h

theorem Play.Alive.offerRelease (h : p.Alive i) (lane : PanelId) (stamp : Int) (b : Bool) :
    (p.offerRelease i lane stamp b).Alive i := by
  unfold Play.offerRelease Play.takeRelease
  split
  next =>
    split
    next =>
      split
      next => exact (h.setHold lane _).settleReached lane
      next => exact h
    next => exact h
  next => exact h

theorem Play.closeHead_alive (k : Nat) (n : NoteRecord) : (p.closeHead i k n).Alive i := by
  unfold Play.closeHead
  dsimp only
  split
  next => exact Play.alive_of_finished Play.state_failStation
  next => exact Play.closeSettlement_alive _

theorem Play.Alive.synthPress (h : p.Alive i) (lane : PanelId) (stamp release : Int) (down : Nine Bool) :
    (p.synthPress i lane stamp release down).Alive i := by
  unfold Play.synthPress
  split
  next => exact Play.Alive.offerPress (h.of_kept (by simp) (by simp) (by simp)) lane stamp true down
  next => exact h

theorem Play.Alive.synthPresses (h : p.Alive i) (stamp release : Int) (down : Nine Bool) (lanes : List PanelId) :
    (p.synthPresses i stamp release down lanes).Alive i := by
  induction lanes generalizing p with
  | nil => exact h
  | cons lane lanes ih => exact ih (h.synthPress lane stamp release down)

theorem Play.Alive.pressNote (h : p.Alive i) (k : Nat) (n : NoteRecord) (down : Nine Bool) :
    (p.pressNote i k n down).Alive i := by
  unfold Play.pressNote
  dsimp only
  have hq := h.updateRecord k fun n => { n with pressTaken := true }
  split
  next => exact hq
  next => exact hq.synthPresses _ _ down _

theorem Play.Alive.releaseLane (h : p.Alive i) (lane : PanelId) (v : Int) : (p.releaseLane i lane v).Alive i :=
  Play.Alive.offerRelease (h.of_kept (by simp) (by simp) (by simp)) lane _ true

theorem Play.Alive.pressRoll (h : p.Alive i) (lane : PanelId) (v : Int) (down : Nine Bool) :
    (p.pressRoll i lane v down).Alive i := by
  unfold Play.pressRoll
  split
  next => exact h
  next => exact (h.setHold lane _).synthPress lane _ _ down

theorem Play.Alive.starve (h : p.Alive i) : (p.starve i).Alive i :=
  h.of_kept (by simp [Play.starve, Play.reportFeed]) (by simp [Play.starve, Play.reportFeed])
    (by simp [Play.starve, Play.reportFeed])

theorem Play.Alive.withRecord (h : p.Alive i) (k : Nat) {f : NoteRecord → Play} (hf : ∀ n, (f n).Alive i) :
    (p.withRecord i k f).Alive i := by
  unfold Play.withRecord
  split
  next => exact h
  next => exact hf _

/-- Taking a deadline leaves a station alive: every result is followed by the test of R101. -/
theorem Play.Alive.takeDue (h : p.Alive i) (down : Nine Bool) (d : Due) : (p.takeDue i down d).Alive i := by
  unfold Play.takeDue
  split
  · exact h.withRecord _ fun n => Play.closeSettlement_alive _
  · exact h.withRecord _ fun n => Play.closeHead_alive _ n
  · exact h.withRecord _ fun n => h.updateRecord _ _
  · exact h.withRecord _ fun n => Play.closeSettlement_alive _
  · exact h.settleTail _ _
  · exact h.settleTail _ _
  · exact h.releaseLane _ _
  · exact h.pressRoll _ _ down
  · exact h.withRecord _ fun n => h.pressNote _ n down
  · exact h.starve

theorem Play.Alive.takeDues (h : p.Alive i) (down : Nine Bool) (fuel : Nat) :
    (Play.takeDues i down fuel p).Alive i := by
  induction fuel generalizing p with
  | zero => exact h
  | succ fuel ih =>
    unfold Play.takeDues
    split
    next => exact h
    next d _ => exact ih (h.takeDue down d)

theorem Play.Alive.takeJoinDues (h : p.Alive i) (down : Nine Bool) (fuel : Nat) :
    (Play.takeJoinDues i down fuel p).Alive i := by
  induction fuel generalizing p with
  | zero => exact h
  | succ fuel ih =>
    unfold Play.takeJoinDues
    split
    next => exact h
    next d _ => exact ih (h.takeDue down d)

theorem Play.Alive.settleStation (h : p.Alive i) (down : Nine Bool) : (p.settleStation i down).Alive i :=
  (h.takeDues down _).drainTest

theorem Play.Alive.takeIf (h : p.Alive i) (down : Nine Bool) (kind : Deadline → Bool) :
    (p.takeIf i down kind).Alive i := by
  unfold Play.takeIf
  split
  next d _ =>
    split
    next => exact h.takeDue down d
    next => exact h
  next => exact h

end

end Sys2Proof.Machine

/-! ## What the moves of a station leave unchanged -/

namespace Sys2Proof.Machine

/-! ### The report queue only grows by records queued -/

theorem ReportQueue.pushAll_append (q : ReportQueue) (rs rs' : List Report) :
    q.pushAll (rs ++ rs') = (q.pushAll rs).pushAll rs' := List.foldl_append

/-- The second play has the first one's report queue with records queued behind. -/
def Play.Tells (p q : Play) : Prop := ∃ rs, q.reports = p.reports.pushAll rs

theorem Play.Tells.refl (p : Play) : p.Tells p := ⟨[], rfl⟩

theorem Play.Tells.trans {p q r : Play} (h : p.Tells q) (h' : q.Tells r) : p.Tells r := by
  obtain ⟨rs, h⟩ := h
  obtain ⟨rs', h'⟩ := h'
  exact ⟨rs ++ rs', by rw [h', h, ReportQueue.pushAll_append]⟩

theorem Play.tells_report (p : Play) (b : ReportBody) : p.Tells (p.report b) := ⟨[⟨p.time, b⟩], rfl⟩

/-! ### Two plays that differ at most at one station -/

/-- The two plays differ at most in station `i`'s record, its lamps, the report queue, and the timeline's state with its pending
start. -/
structure Play.SameBut (i : StationId) (p q : Play) : Prop where
  others : ∀ j, j ≠ i → q.station j = p.station j ∧ q.lamps.get j = p.lamps.get j
  timeline : { q.timeline with state := p.timeline.state, pendingStart := p.timeline.pendingStart } = p.timeline
  scoring : q.scoring = p.scoring
  grace : q.grace = p.grace
  rollGap : q.rollGap = p.rollGap
  afterStep : q.afterStep = p.afterStep
  periodBegun : q.periodBegun = p.periodBegun

variable {i : StationId} {p q r : Play}

theorem Play.SameBut.refl (i : StationId) (p : Play) : Play.SameBut i p p :=
  ⟨fun _ _ => ⟨rfl, rfl⟩, rfl, rfl, rfl, rfl, rfl, rfl⟩

theorem Play.SameBut.trans (h : Play.SameBut i p q) (h' : Play.SameBut i q r) : Play.SameBut i p r where
  others j hj := ⟨(h'.others j hj).1.trans (h.others j hj).1, (h'.others j hj).2.trans (h.others j hj).2⟩
  timeline := by rw [← h.timeline, ← h'.timeline]
  scoring := h'.scoring.trans h.scoring
  grace := h'.grace.trans h.grace
  rollGap := h'.rollGap.trans h.rollGap
  afterStep := h'.afterStep.trans h.afterStep
  periodBegun := h'.periodBegun.trans h.periodBegun

theorem Play.sameBut_report (p : Play) (b : ReportBody) : Play.SameBut i p (p.report b) :=
  ⟨fun _ _ => ⟨rfl, rfl⟩, rfl, rfl, rfl, rfl, rfl, rfl⟩

theorem Play.sameBut_modStation (p : Play) (f : Station → Station) : Play.SameBut i p (p.modStation i f) :=
  ⟨fun _ hj => ⟨p.station_modStation_ne f hj, rfl⟩, rfl, rfl, rfl, rfl, rfl, rfl⟩

theorem Play.sameBut_lampResult (p : Play) (m : LaneSet) (r : Result) : Play.SameBut i p (p.lampResult i m r) :=
  ⟨fun _ hj => ⟨rfl, p.lamps.get_modify_ne _ hj⟩, rfl, rfl, rfl, rfl, rfl, rfl⟩

theorem Play.sameBut_finish (p : Play) (o : SongOutcome) : Play.SameBut i p (p.finish i o) :=
  ((p.sameBut_modStation _).trans (Play.sameBut_report _ _)).trans (Play.sameBut_report _ _)

theorem Play.sameBut_autoStop (p : Play) : Play.SameBut i p p.autoStop := by
  unfold Play.autoStop
  split
  next => exact ⟨fun _ _ => ⟨rfl, rfl⟩, rfl, rfl, rfl, rfl, rfl, rfl⟩
  next => exact .refl i p

theorem Play.tells_finish (p : Play) (o : SongOutcome) : p.Tells (p.finish i o) :=
  (Play.tells_report (p.modStation i _) _).trans (Play.tells_report _ _)

theorem Play.tells_autoStop (p : Play) : p.Tells p.autoStop := by
  unfold Play.autoStop
  split
  next => exact Play.tells_report (p.modTimeline _) _
  next => exact .refl p

/-- A move touches its own station alone. -/
theorem PlayMove.sameBut (h : PlayMove i p q) : Play.SameBut i p q := by
  cases h with
  | report b => exact p.sameBut_report b
  | lamps m r => exact p.sameBut_lampResult m r
  | station f _ => exact p.sameBut_modStation f
  | clear _ _ _ => exact (p.sameBut_finish _).trans (Play.sameBut_autoStop _)
  | fail _ =>
    exact ((p.sameBut_modStation Station.discard).trans (Play.sameBut_finish _ _)).trans (Play.sameBut_autoStop _)

theorem PlayMove.tells (h : PlayMove i p q) : p.Tells q := by
  cases h with
  | report b => exact p.tells_report b
  | lamps m r => exact .refl p
  | station f _ => exact .refl p
  | clear _ _ _ => exact (p.tells_finish _).trans (Play.tells_autoStop _)
  | fail _ =>
    exact (Play.tells_finish (p.modStation i Station.discard) .failed).trans (Play.tells_autoStop _)

/-- A change of the record keeps the station's state. -/
theorem StationMove.state_eq {table : PerResult ScoreRow} {st u : Station} (h : StationMove table st u) :
    u.state = st.state := by cases h <;> rfl

/-- A move keeps its station's state or finishes the station. -/
theorem PlayMove.state (h : PlayMove i p q) :
    (q.station i).state = (p.station i).state ∨ (q.station i).state = .finished := by
  cases h with
  | report _ => exact .inl rfl
  | lamps _ _ => exact .inl rfl
  | station f hf => exact .inl (by rw [Play.station_modStation]; exact hf.state_eq)
  | clear _ _ _ => exact .inr (by simp [Play.station_finish])
  | fail _ => exact .inr Play.state_failStation

theorem Play.autoStop_timeline (p : Play) : p.autoStop.timeline = p.timeline
    ∨ p.timeline.state = .running ∧ p.autoStop.timeline = { p.timeline with state := .stopped, pendingStart := none } := by
  unfold Play.autoStop
  split
  next h => exact .inr ⟨by simp at h; exact h.1, rfl⟩
  next => exact .inl rfl

/-- A move keeps the timeline, or stops one that runs. -/
theorem PlayMove.timeline (h : PlayMove i p q) : q.timeline = p.timeline
    ∨ p.timeline.state = .running ∧ q.timeline = { p.timeline with state := .stopped, pendingStart := none } := by
  cases h with
  | report _ => exact .inl rfl
  | lamps _ _ => exact .inl rfl
  | station f hf => exact .inl rfl
  | clear _ _ _ => exact (p.finish i .cleared).autoStop_timeline
  | fail _ => exact (p.discardFinish i .failed).autoStop_timeline

theorem PlayMoves.sameBut (h : PlayMoves i p q) : Play.SameBut i p q :=
  h.keeps (P := Play.SameBut i p) (fun _ _ hm hp => hp.trans hm.sameBut) (.refl i p)

theorem PlayMoves.tells (h : PlayMoves i p q) : p.Tells q :=
  h.keeps (P := p.Tells) (fun _ _ hm hp => hp.trans hm.tells) (.refl p)

theorem PlayMoves.state (h : PlayMoves i p q) :
    (q.station i).state = (p.station i).state ∨ (q.station i).state = .finished :=
  h.keeps (P := fun q => (q.station i).state = (p.station i).state ∨ (q.station i).state = .finished)
    (fun _ _ hm hp => hm.state.elim (fun e => by rw [e]; exact hp) .inr) (.inl rfl)

end Sys2Proof.Machine

/-! ## What a command can make of the play blocks -/

namespace Sys2Proof.Machine

/-- The play blocks as a song starts at `start`: the timeline RUNNING and every LOADED station in play (R7, R119), before the
reports and settlements. -/
def Play.entered (p : Play) (start : Int) : Play :=
  { p with
    timeline := { p.timeline with
      state := .running, t := start, r := 0, pendingStart := none, startTime := start, lock := .free, badAnchors := 0 }
    stations := p.stations.map Station.enter }

/-- A station's record as a taken CHART_END makes it, before the finishing test (R6, R34). -/
def Station.completeChart (endTime : Int) (st : Station) : Station :=
  { st with
    feed := st.feed.complete endTime
    state := if st.state = .running then .draining else st.state }

/-- The source monitor's timeline after a loss of the source (R115). -/
def Timeline.lost (tl : Timeline) : Timeline := { tl with source := .holdover, r := 0, edgeRun := 0, lossTimer := 0 }

/-- The source monitor's timeline after the source's return (R116). -/
def Timeline.returned (now : Nat) (tl : Timeline) : Timeline :=
  { tl with source := .external, r := 0, edgeRun := Config.edgeRunGoal, lossTimer := 0, lastEdge := some now }

/-- One change of the play blocks, with the condition under which a command makes it. Every change a command makes of them is a
chain of these, so that an invariant of the play blocks has one case for each. -/
inductive PlayChange : Play → Play → Prop
  /-- A station takes an edge or a deadline, or a finishing test, whole (R45, R47, R48, R9). -/
  | settle {p q : Play} (i : StationId) (h : PlayMoves i p q) (ha : p.Alive i → q.Alive i) : PlayChange p q
  /-- A report is queued (R183). -/
  | report (p : Play) (b : ReportBody) : PlayChange p (p.report b)
  /-- The transmitter takes the oldest report (R174, R185). -/
  | sendReport (p : Play) (r : Report) (rest : List Report) (h : p.reports.records = r :: rest) :
    PlayChange p { p with reports := { p.reports with records := rest, pendingLost := 0 } }
  /-- GET_LINK_COUNTS (R178). -/
  | clearLost (p : Play) : PlayChange p { p with reports := { p.reports with reportsLost := 0 } }
  /-- CONFIG_REPORTS (R187). -/
  | configReports (p : Play) (e : Four Bool) : PlayChange p { p with reports := { p.reports with pressEnables := e } }
  /-- SET_LAMPS (R164). -/
  | setLamps (p : Play) (set : LaneSet) (f : LampFields) (mode : LampMode) (named : List StationId)
      (h : lampMode f = some mode) : PlayChange p (p.setLamps set mode named)
  /-- A PWM period starts (R163). -/
  | evaluate (p : Play) (downs : Four (Nine Bool)) :
    PlayChange p { p with lamps := evaluateLamps p downs, periodBegun := true }
  /-- A crystal period passes on the lamps (R166). -/
  | flashTick (p : Play) : PlayChange p { p.flashTick with periodBegun := false }
  /-- FLASH_END (R166). -/
  | flashEnd (p : Play) (i : StationId) (j : PanelId) :
    PlayChange p { p with lamps := p.lamps.modify i fun row => row.modify j (Lamp.modFlash fun _ => 0) }
  /-- CONFIG_SCORING (R96). -/
  | configScoring (p : Play) (rows : PerResult ScoreField) (h : p.timeline.state = .stopped) :
    PlayChange p { p with scoring := rows.map scoreRow }
  /-- CONFIG_HOLDS (R91). -/
  | configHolds (p : Play) (grace rollGap : Nat) (h : p.timeline.state = .stopped) :
    PlayChange p { p with grace := (setting 0 500000 grace).value, rollGap := (setting 50000 1000000 rollGap).value }
  /-- CONFIG_JUDGE (R43). -/
  | configJudge (p : Play) (f : JudgeFields) (named : List StationId) (h : p.timeline.state = .stopped)
      (hw : (judgeSettings f).increasing = true) : PlayChange p (p.configJudge (judgeSettings f) named)
  /-- CONFIG_TIMING (R114). -/
  | configTiming (p : Play) (rate : Nat) (tolerance : Nat) (h : p.timeline.state = .stopped) (h1 : 8000 ≤ rate)
      (h2 : rate ≤ 192000) : PlayChange p (p.modTimeline fun tl =>
        { tl with rate := rate, tolerance := (setting 500 100000 tolerance).value, r := 0, edgeRun := 0 })
  /-- LOAD_STATION (R2). -/
  | load (p : Play) (i : StationId) (mask : LaneSet) (units life : Nat) (autoplay failEnable : Bool)
      (h : (p.station i).state = .idle) (ht : p.timeline.state = .stopped) (hm : mask ≠ 0) :
    PlayChange p (p.setStation i (.load (p.station i).judge mask (setting 0 Config.unitsMax units).value
      (setting 1 Config.lifeMax life).value autoplay failEnable))
  /-- CLEAR_STATION (R19). -/
  | clear (p : Play) (i : StationId) (h : (p.station i).state = .finished) :
    PlayChange p (p.setStation i (.idle (p.station i).judge))
  /-- CHART_END, before the finishing test (R6, R34). -/
  | chartEnd (p : Play) (i : StationId) (endTime : Int) (h : (p.station i).takesNotes = true) :
    PlayChange p (p.modStation i (Station.completeChart endTime))
  /-- NOTE_BLOCK (R30). -/
  | block (p : Play) (i : StationId) (down : Nine Bool) (covered : Int) (notes : List RawNote)
      (h : (p.station i).takesNotes = true) (hc : checkNotes (p.station i) covered notes = none) :
    PlayChange p (p.takeBlock i down covered notes)
  /-- An abort of stations, with its tests (R12, R15). -/
  | abort (p : Play) (named : List StationId) : PlayChange p (p.abortStations named).1.abortTests
  /-- STOP_SONG in STARTING (R16). -/
  | stopWaiting (p : Play) (h : p.timeline.state = .starting) : PlayChange p p.stopTimeline
  /-- STOP_SONG in RUNNING (R16). -/
  | stopPlay (p : Play) (h : p.timeline.state = .running) : PlayChange p p.endPlay.stopTimeline
  /-- START_SONG on EXTERNAL (R118). -/
  | await (p : Play) (start : BitVec 32) (h : p.timeline.state = .stopped) (hl : p.anyLoaded = true)
      (hs : p.timeline.source = .external) : PlayChange p (p.modTimeline fun tl =>
        { tl with state := .starting, pendingStart := some start.toInt })
  /-- START_SONG on HOLDOVER (R118, R119). -/
  | start (p : Play) (start : BitVec 32) (h : p.timeline.state = .stopped) (hl : p.anyLoaded = true)
      (hs : p.timeline.source = .holdover) : PlayChange p (p.entered start.toInt)
  /-- The pending start is taken at an edge (R119). -/
  | startPending (p : Play) (start : Int) (h : p.timeline.state = .starting)
      (hp : p.timeline.pendingStart = some start) : PlayChange p (p.entered start)
  /-- The pending start is taken at the loss of the source (R115, R119). -/
  | startLost (p : Play) (start : Int) (h : p.timeline.state = .starting)
      (hp : p.timeline.pendingStart = some start) : PlayChange p (p.sourceLoss.entered start)
  /-- The source is lost, with no start pending (R115). -/
  | sourceLoss (p : Play)
      (h : p.timeline.state = .starting → p.timeline.pendingStart = none) : PlayChange p p.sourceLoss
  /-- The source returns (R116). -/
  | sourceReturn (p : Play) (now : Nat) (h : p.timeline.source = .holdover)
      (hr : p.timeline.edgeRunAfter now ≥ Config.edgeRunGoal) : PlayChange p (p.modTimeline (Timeline.returned now))
  /-- An edge in HOLDOVER that completes no run (R116). -/
  | holdoverEdge (p : Play) (now : Nat) (h : p.timeline.source = .holdover)
      (hr : ¬ p.timeline.edgeRunAfter now ≥ Config.edgeRunGoal) :
    PlayChange p (p.modTimeline fun tl => { tl with edgeRun := tl.edgeRunAfter now, lastEdge := some now })
  /-- An edge on EXTERNAL restarts the loss timer (R112, R116). -/
  | noteEdge (p : Play) (now : Nat) : PlayChange p (p.modTimeline (Timeline.noteEdge now))
  /-- The loss timer counts (R115). -/
  | lossTick (p : Play) : PlayChange p (p.modTimeline fun tl => { tl with lossTimer := tl.lossTimer + 1 })
  /-- An edge advances T (R112). -/
  | accumulate (p : Play) (h : p.timeline.state = .running) : PlayChange p (p.modTimeline Timeline.accumulate)
  /-- A microsecond of HOLDOVER advances T (R115). -/
  | holdoverTick (p : Play) (h : p.timeline.state = .running) :
    PlayChange p (p.modTimeline fun tl => tl.advance 1 tl.r)
  /-- The lock is set by an anchor (R123). -/
  | setLock (p : Play) (lock : Lock) (badAnchors : Nat) (h : badAnchors ≤ 2) :
    PlayChange p (p.modTimeline fun tl => { tl with lock := lock, badAnchors := badAnchors })
  /-- T is stepped (R124). -/
  | step (p : Play) (target : BitVec 32) :
    PlayChange p (p.modTimeline fun tl => { tl with t := target.toInt, r := 0, badAnchors := 0, lock := .locked })
  /-- The settlement of a forward step begins or ends (R58, R65). -/
  | afterStep (p : Play) (b : Bool) : PlayChange p { p with afterStep := b }
  /-- RESET_PLAY (R180). -/
  | resetPlay (p : Play) : PlayChange p p.resetPlay
  /-- Power-on and pin reset (R179). -/
  | restart (p : Play) (cause : ResetCause) : PlayChange p (.reset cause)

/-- A chain of changes of the play blocks. -/
abbrev PlayChanges : Play → Play → Prop := Relation.ReflTransGen PlayChange

/-- What every change keeps, a chain of changes keeps. -/
theorem PlayChanges.keeps {P : Play → Prop} (h : ∀ p q, PlayChange p q → P p → P q) {p q : Play}
    (hm : PlayChanges p q) (hp : P p) : P q := by
  induction hm with
  | refl => exact hp
  | tail _ hq ih => exact h _ _ hq ih

theorem PlayChange.chain {p q : Play} (h : PlayChange p q) : PlayChanges p q := .single h

/-! ### Settlements -/

section

variable (p : Play) (i : StationId)

theorem Play.drainTest_changes : PlayChanges p (p.drainTest i) :=
  (PlayChange.settle i (p.drainTest_moves i) fun h => h.drainTest).chain

theorem Play.settleStation_changes (down : Nine Bool) : PlayChanges p (p.settleStation i down) :=
  (PlayChange.settle i (p.settleStation_moves i down) fun h => h.settleStation down).chain

theorem Play.takeIf_changes (down : Nine Bool) (kind : Deadline → Bool) : PlayChanges p (p.takeIf i down kind) :=
  (PlayChange.settle i (p.takeIf_moves i down kind) fun h => h.takeIf down kind).chain

theorem Play.offerPress_changes (lane : PanelId) (stamp : Int) (b : Bool) (down : Nine Bool) :
    PlayChanges p (p.offerPress i lane stamp b down) :=
  (PlayChange.settle i (p.offerPress_moves i lane stamp b down) fun h => h.offerPress lane stamp b down).chain

theorem Play.offerRelease_changes (lane : PanelId) (stamp : Int) (b : Bool) :
    PlayChanges p (p.offerRelease i lane stamp b) :=
  (PlayChange.settle i (p.offerRelease_moves i lane stamp b) fun h => h.offerRelease lane stamp b).chain

theorem Play.settleStations_changes (down : Four (Nine Bool)) (is : List StationId) :
    PlayChanges p (p.settleStations down is) := by
  induction is generalizing p with
  | nil => exact .refl
  | cons i is ih =>
    refine Relation.ReflTransGen.trans ?_ (ih _)
    split
    next => exact p.settleStation_changes i _
    next => exact .refl

theorem Play.settleAll_changes (down : Four (Nine Bool)) : PlayChanges p (p.settleAll down) :=
  p.settleStations_changes down _

theorem Play.report_changes (b : ReportBody) : PlayChanges p (p.report b) := (PlayChange.report p b).chain

theorem Play.reportStations_changes (is : List StationId) : PlayChanges p (p.reportStations is) := by
  induction is generalizing p with
  | nil => exact .refl
  | cons i is ih => exact (p.report_changes _).trans (ih _)

/-! ### The timeline -/

/-- A song's start is the entry of the stations, the reports and the settlements (R7, R119). -/
theorem Play.startRunning_eq (start : Int) (down : Four (Nine Bool)) :
    p.startRunning start down = (((p.entered start).reportTimeline .started 0).reportStations p.loadedStations
      ).settleStations down p.loadedStations := rfl

theorem Play.startRunning_changes {q : Play} (start : Int) (down : Four (Nine Bool))
    (h : PlayChanges p (q.entered start)) : PlayChanges p (q.startRunning start down) := by
  rw [Play.startRunning_eq]
  exact ((h.trans (Play.report_changes _ _)).trans (Play.reportStations_changes _ _)).trans
    (Play.settleStations_changes _ _ _)

theorem Play.setLock_changes (lock : Lock) (n : Nat) (h : n ≤ 2) : PlayChanges p (p.setLock lock n) := by
  have hq := (PlayChange.setLock p lock n h).chain
  unfold Play.setLock
  dsimp only
  split
  next => exact hq
  next => exact hq.trans (Play.report_changes _ _)

theorem Play.step_changes (target : BitVec 32) (amount : Int) (down : Four (Nine Bool)) :
    PlayChanges p (p.step target.toInt amount down) := by
  have hq := (PlayChange.step p target).chain.trans (Play.report_changes _ (.timeline .step target.toInt
    p.timeline.source .locked (clampTime amount)))
  unfold Play.step
  dsimp only
  split
  next =>
    exact ((hq.trans (PlayChange.afterStep _ true).chain).trans (Play.settleAll_changes _ down)).trans
      (PlayChange.afterStep _ false).chain
  next => exact hq

theorem Play.chartEnd_changes (endTime : Int) (h : (p.station i).takesNotes = true) :
    PlayChanges p (p.chartEnd i endTime) := by
  have hq := (PlayChange.chartEnd p i endTime h).chain
  unfold Play.chartEnd
  dsimp only
  split
  next => exact (hq.trans (Play.report_changes _ _)).trans (Play.drainTest_changes _ i)
  next => exact hq

theorem Play.holdoverEdge_changes (now : Nat) (h : p.timeline.source = .holdover) :
    PlayChanges p (p.holdoverEdge now) := by
  unfold Play.holdoverEdge
  split
  next hr => exact (PlayChange.sourceReturn p now h hr).chain.trans (Play.report_changes _ _)
  next hr => exact (PlayChange.holdoverEdge p now h hr).chain

end

/-! ### Rows of the timeline -/

section

variable (s : State)

theorem startPending_changes : PlayChanges s.play (startPending s).play := by
  unfold startPending
  split
  next start hs hp => exact s.play.startRunning_changes _ _ (PlayChange.startPending _ start hs hp).chain
  next => exact .refl

theorem audclkEdge_changes : PlayChanges s.play (audclkEdge s).play := by
  unfold audclkEdge
  split
  next h => exact s.play.holdoverEdge_changes _ h
  next =>
    have hq := (PlayChange.noteEdge s.play s.localTime).chain
    dsimp only
    split
    next => exact hq
    next => exact hq.trans (startPending_changes (s.modPlay fun p => p.modTimeline (Timeline.noteEdge s.localTime)))
    next h => exact (hq.trans (PlayChange.accumulate _ h).chain).trans (Play.settleAll_changes _ _)

theorem sourceReturn_changes : PlayChanges s.play (sourceReturn s).play := by
  unfold sourceReturn
  split
  next h => exact (PlayChange.sourceReturn s.play _ h.1 h.2).chain.trans (Play.report_changes _ _)
  next => exact .refl

theorem holdoverTick_changes : PlayChanges s.play (holdoverTick s).play := by
  unfold holdoverTick
  split
  next h => exact (PlayChange.holdoverTick _ h.1).chain.trans (Play.settleAll_changes _ _)
  next => exact .refl

/-- The loss of the source takes a pending start with it. -/
theorem lossTimerExpiry_changes : PlayChanges s.play (lossTimerExpiry s).play := by
  unfold lossTimerExpiry
  split
  next =>
    unfold startPending
    split
    next start hs hp => exact s.play.startRunning_changes _ _ (PlayChange.startLost s.play start hs hp).chain
    next hn =>
      refine (PlayChange.sourceLoss _ fun hs => Option.eq_none_iff_forall_ne_some.mpr fun start hp => ?_).chain
      exact hn start hs hp
  next => exact .refl

/-! ### The panel unit's rows and a scan -/

theorem State.report_changes (b : ReportBody) : PlayChanges s.play (s.report b).play := s.play.report_changes b

theorem deliverEdge_changes (i : StationId) (j : PanelId) (e : Edge) : PlayChanges s.play (deliverEdge i j e s).play := by
  have hreport : ∀ (e : Edge) (s : State), PlayChanges s.play (reportEdge i j e s).play := by
    intro e s
    unfold reportEdge
    split
    next => cases e <;> exact s.report_changes _
    next => exact .refl
  have hjudge : ∀ (e : Edge) (s : State), PlayChanges s.play (judgeEdge i j e s).play := by
    intro e s
    cases e with
    | press stamp => exact s.play.offerPress_changes i j stamp false _
    | release stamp => exact s.play.offerRelease_changes i j stamp false
  have hoccupy : ∀ (e : Edge) (s : State), PlayChanges s.play (occupyEdge i e s).play := by
    intro e s
    cases e with
    | press stamp =>
      unfold occupyEdge arrive
      dsimp only
      split
      next => exact State.report_changes _ _
      next => exact .refl
    | release stamp => exact .refl
  exact ((hreport _ _).trans (hjudge _ _)).trans (hoccupy _ _)

theorem deliver_changes (i : StationId) (j : PanelId) (e : Option Edge) : PlayChanges s.play (deliver i j e s).play := by
  cases e with
  | none => exact .refl
  | some e => exact deliverEdge_changes s i j e

theorem becomeStuck_changes (i : StationId) (j : PanelId) (stamp : Int) :
    PlayChanges s.play (becomeStuck i j stamp s).play :=
  (State.report_changes (s.setPanel i j { s.panel i j with state := .stuck 0, stuckTimer := 0, stuckLatch := true })
    (.fault i j.val .panelStuck)).trans (deliverEdge_changes _ i j _)

theorem becomeDead_changes (i : StationId) (j : PanelId) (stamp : Int) :
    PlayChanges s.play (becomeDead i j stamp s).play :=
  (State.report_changes (s.setPanel i j { s.panel i j with state := .dead, stuckTimer := 0 })
    (.fault i j.val .panelDead)).trans (deliver_changes _ i j _)

theorem advanceStuck_changes (i : StationId) (j : PanelId) (stamp : Int) (entered : Bool) :
    PlayChanges s.play (advanceStuck i j stamp entered s).play := by
  unfold advanceStuck
  dsimp only
  split
  next =>
    split
    next => exact becomeStuck_changes s i j stamp
    next => exact .refl
  next => exact .refl

theorem takePanel_changes (i : StationId) (j : PanelId) (stamp : Int) (scan : PanelScan) :
    PlayChanges s.play (takePanel i j stamp scan s).play := by
  have hrecover : ∀ s : State, (recoverPanel i j s).play = s.play := by
    intro s; unfold recoverPanel; dsimp only; split <;> rfl
  have hload : PlayChanges s.play (if scan.healthy = 0 then
      if (s.panel i j).state = .dead then s else becomeDead i j stamp s
    else takeLoad i j stamp scan.load s).play := by
    split
    next =>
      split
      next => exact .refl
      next => exact becomeDead_changes s i j stamp
    next => exact (deliver_changes (s.setPanel i j _) i j _).trans (advanceStuck_changes _ i j stamp _)
  unfold takePanel
  dsimp only
  split
  next => rw [hrecover]; exact hload
  next => exact hload

theorem takePanels_changes (i : StationId) (stamp : Int) (scans : Nine PanelScan) (js : List PanelId) :
    PlayChanges s.play (takePanels i stamp scans js s).play := by
  induction js generalizing s with
  | nil => exact .refl
  | cons j js ih => exact (takePanel_changes s i j stamp _).trans (ih _)

theorem becomeVacant_changes (i : StationId) : PlayChanges s.play (becomeVacant i s).play := State.report_changes _ _

theorem advanceOccupancy_changes (i : StationId) : PlayChanges s.play (advanceOccupancy i s).play := by
  unfold advanceOccupancy
  dsimp only
  split
  next =>
    split
    next => exact becomeVacant_changes s i
    next => exact .refl
  next => exact .refl

theorem fireCombo_changes (i : StationId) : PlayChanges s.play (fireCombo i s).play := by
  unfold fireCombo
  dsimp only
  split
  next => exact (State.report_changes _ _).trans (PlayChange.abort _ [i]).chain
  next => exact State.report_changes _ _

theorem advanceCombo_changes (i : StationId) : PlayChanges s.play (advanceCombo i s).play := by
  unfold advanceCombo
  dsimp only
  split
  next => exact .refl
  next =>
    split
    next => split <;> exact .refl
    next =>
      split
      next =>
        split
        next => exact fireCombo_changes s i
        next => exact .refl
      next => exact .refl

theorem reportFaults_changes (i : StationId) (es : List (Nat × FaultEvent)) :
    PlayChanges s.play (reportFaults i es s).play := by
  induction es generalizing s with
  | nil => exact .refl
  | cons e es ih => exact (s.report_changes _).trans (ih _)

theorem completeScan_changes (i : StationId) (samples : Samples) :
    PlayChanges s.play (completeScan i samples s).play :=
  (((reportFaults_changes (s.modScan i _) i _).trans (takePanels_changes _ i _ _ _)).trans
    (advanceOccupancy_changes _ i)).trans (advanceCombo_changes _ i)

theorem scanFreely_changes (i : StationId) : PlayChanges s.play (scanFreely i s).play := by
  unfold scanFreely
  split
  next => exact completeScan_changes s i _
  next => exact .refl

theorem scanRest_changes : PlayChanges s.play (scanRest s).play :=
  (((scanFreely_changes _ 0).trans (scanFreely_changes _ 1)).trans (scanFreely_changes _ 2)).trans
    (scanFreely_changes _ 3)

theorem pressConfirm_changes (i : StationId) (j : PanelId) : PlayChanges s.play (pressConfirm i j s).play := by
  unfold pressConfirm
  dsimp only
  split
  next => split <;> [exact deliver_changes (s.setPanel i j _) i j _; exact .refl]
  next => split <;> [exact deliver_changes (s.setPanel i j _) i j _; exact .refl]
  next => exact .refl

theorem releaseConfirm_changes (i : StationId) (j : PanelId) : PlayChanges s.play (releaseConfirm i j s).play := by
  unfold releaseConfirm
  dsimp only
  split
  next => split <;> [exact deliver_changes (s.setPanel i j _) i j _; exact .refl]
  next => split <;> [exact deliver_changes (s.setPanel i j _) i j _; exact .refl]
  next => exact .refl

theorem play_stuckExit (i : StationId) (j : PanelId) : (stuckExit i j s).play = s.play := by
  unfold stuckExit
  dsimp only
  split
  next => split <;> rfl
  next => rfl

theorem panelStuck_changes (i : StationId) (j : PanelId) : PlayChanges s.play (panelStuck i j s).play := by
  unfold panelStuck
  split
  next => exact becomeStuck_changes s i j _
  next => exact .refl

/-! ### The lamps and the line -/

theorem pwmPeriodStart_changes : PlayChanges s.play (pwmPeriodStart s).play := (PlayChange.evaluate _ _).chain

theorem chooseFrame_changes : PlayChanges s.play (chooseFrame s).play := by
  unfold chooseFrame
  split
  next => exact .refl
  next _ r rest _ h => split <;> [exact .refl; exact (PlayChange.sendReport _ r rest h).chain]
  next r rest _ h => exact (PlayChange.sendReport _ r rest h).chain
  next => exact .refl

theorem txFrameBegin_changes : PlayChanges s.play (txFrameBegin s).play := by
  unfold txFrameBegin
  split
  next => exact chooseFrame_changes s
  next => exact .refl

theorem txFrameEnd_changes : PlayChanges s.play (txFrameEnd s).play := by
  unfold txFrameEnd
  split
  next => exact .refl
  next => exact chooseFrame_changes (s.modLink _)

theorem play_gapTimeout : (gapTimeout s).play = s.play := by
  unfold gapTimeout
  split <;> rfl

end

/-! ### Requests -/

/-- A selection of stations by a change of their panel units leaves the play blocks. -/
theorem play_modStations (f : PanelStation → PanelStation) (is : List StationId) (s : State) :
    (modStations f is s).play = s.play := by
  induction is generalizing s with
  | nil => rfl
  | cons i is ih => exact ih _

theorem ownConfigTiming_changes (rate tolerance : BitVec 32) (s : State) :
    PlayChanges s.play (ownConfigTiming rate tolerance s).2.play := by
  unfold ownConfigTiming
  dsimp only
  split
  next => exact .refl
  next ht =>
    split
    next => exact .refl
    next hr => exact (PlayChange.configTiming _ _ _ (not_not.mp ht) (by omega) (by omega)).chain

theorem ownConfigJudge_changes (selector : Byte) (f : JudgeFields) (s : State) :
    PlayChanges s.play (ownConfigJudge selector f s).2.play := by
  unfold ownConfigJudge
  split
  next => exact .refl
  next =>
    split
    next => exact .refl
    next ht =>
      split
      next => exact .refl
      next hw => exact (PlayChange.configJudge _ f _ (not_not.mp ht) (by simpa using hw)).chain

theorem ownConfigHolds_changes (grace rollGap : BitVec 32) (s : State) :
    PlayChanges s.play (ownConfigHolds grace rollGap s).2.play := by
  unfold ownConfigHolds
  split
  next => exact .refl
  next ht => exact (PlayChange.configHolds _ _ _ (not_not.mp ht)).chain

theorem ownConfigScoring_changes (rows : PerResult ScoreField) (s : State) :
    PlayChanges s.play (ownConfigScoring rows s).2.play := by
  unfold ownConfigScoring
  split
  next => exact .refl
  next ht => exact (PlayChange.configScoring _ rows (not_not.mp ht)).chain

theorem play_ownConfigPanels (f : PanelFields) (s : State) : (ownConfigPanels f s).2.play = s.play := by
  unfold ownConfigPanels
  split
  next => rfl
  next => exact play_modStations _ _ _

theorem play_ownConfigCombo (f : ComboFields) (s : State) : (ownConfigCombo f s).2.play = s.play := by
  unfold ownConfigCombo
  split
  next => rfl
  next => exact play_modStations _ _ _

theorem ownSetLamps_changes (f : LampFields) (s : State) : PlayChanges s.play (ownSetLamps f s).2.play := by
  unfold ownSetLamps
  split
  next h => exact (PlayChange.setLamps _ _ f _ _ h).chain
  next => exact .refl

theorem ownLoadStation_changes (f : LoadFields) (s : State) : PlayChanges s.play (ownLoadStation f s).2.play := by
  unfold ownLoadStation
  split
  next => exact .refl
  next i _ =>
    dsimp only
    split
    next => exact .refl
    next h =>
      split
      next => exact .refl
      next hm =>
        rw [not_or, not_not, not_not] at h
        exact (PlayChange.load _ i _ _ _ _ _ h.1 h.2 hm).chain.trans (Play.report_changes _ _)

theorem ownNoteBlock_changes (payload : List Byte) (s : State) :
    PlayChanges s.play (ownNoteBlock payload s).2.play := by
  unfold ownNoteBlock
  dsimp only
  split
  next => exact .refl
  next i _ =>
    split
    next => exact .refl
    next ht =>
      split
      next => exact .refl
      next notes _ =>
        split
        next => exact .refl
        next hc => exact (PlayChange.block _ i _ _ notes (by simpa using ht) hc).chain

theorem ownChartEnd_changes (station : Byte) (endTime : BitVec 32) (s : State) :
    PlayChanges s.play (ownChartEnd station endTime s).2.play := by
  unfold ownChartEnd
  split
  next => exact .refl
  next i _ =>
    split
    next h => exact s.play.chartEnd_changes i _ h
    next => exact .refl

theorem ownAbortSong_changes (stations : Byte) (s : State) : PlayChanges s.play (ownAbortSong stations s).2.play := by
  unfold ownAbortSong
  split
  next => exact .refl
  next => exact (PlayChange.abort _ _).chain

theorem ownClearStation_changes (station : Byte) (s : State) :
    PlayChanges s.play (ownClearStation station s).2.play := by
  unfold ownClearStation
  split
  next => exact .refl
  next i _ =>
    dsimp only
    split
    next h => exact (PlayChange.clear _ i h).chain.trans (Play.report_changes _ _)
    next => exact .refl

theorem play_ownArmPresence (station : Byte) (s : State) : (ownArmPresence station s).2.play = s.play := by
  unfold ownArmPresence
  split <;> rfl

theorem play_ownSeedBaseline (station : Byte) (s : State) : (ownSeedBaseline station s).2.play = s.play := by
  unfold ownSeedBaseline
  split
  next => rfl
  next => split <;> rfl

theorem ownStartSong_changes (start : BitVec 32) (s : State) : PlayChanges s.play (ownStartSong start s).2.play := by
  unfold ownStartSong
  split
  next => exact .refl
  next h =>
    rw [not_or, not_not, Bool.not_eq_true, Bool.not_eq_false'] at h
    split
    next hs => exact (PlayChange.await _ start h.1 h.2 hs).chain
    next hs => exact s.play.startRunning_changes _ _ (PlayChange.start _ start h.1 h.2 hs).chain

theorem ownStopSong_changes (s : State) : PlayChanges s.play (ownStopSong s).2.play := by
  unfold ownStopSong
  split
  next => exact .refl
  next h => exact (PlayChange.stopWaiting _ h).chain
  next h => exact (PlayChange.stopPlay _ h).chain

theorem ownAnchor_changes (time : BitVec 32) (s : State) : PlayChanges s.play (ownAnchor time s).2.play := by
  unfold ownAnchor
  dsimp only
  split
  next => exact .refl
  next =>
    split
    next => exact s.play.setLock_changes _ _ (by omega)
    next =>
      split
      next h => exact s.play.setLock_changes _ _ (by omega)
      next => exact s.play.step_changes time _ _

/-- A request that reads changes nothing. -/
theorem ownGetStatus_state (sect station : Byte) (s : State) : (ownGetStatus sect station s).2 = s := by
  unfold ownGetStatus
  split <;> rfl

theorem ownGetTally_state (station : Byte) (s : State) : (ownGetTally station s).2 = s := by
  unfold ownGetTally
  split <;> rfl

theorem ownGetResult_state (station : Byte) (s : State) : (ownGetResult station s).2 = s := by
  unfold ownGetResult
  split
  next => rfl
  next => split <;> rfl

theorem ownGetSensors_state (station : Byte) (s : State) : (ownGetSensors station s).2 = s := by
  unfold ownGetSensors
  split <;> rfl

/-- Every request of the catalogue makes a chain of changes of the play blocks. -/
theorem ownerOf_changes (r : Request) (b : List Byte) (s : State) : PlayChanges s.play (ownerOf r b s).2.play := by
  cases r with
  | configTiming => exact ownConfigTiming_changes _ _ s
  | configJudge => exact ownConfigJudge_changes _ _ s
  | configHolds => exact ownConfigHolds_changes _ _ s
  | configScoring => exact ownConfigScoring_changes _ s
  | configPanels => exact (play_ownConfigPanels (readPanels b) s).symm ▸ .refl
  | configCombo => exact (play_ownConfigCombo (readCombo b) s).symm ▸ .refl
  | configReports => exact (PlayChange.configReports _ _).chain
  | setLamps => exact ownSetLamps_changes _ s
  | loadStation => exact ownLoadStation_changes _ s
  | noteBlock => exact ownNoteBlock_changes b s
  | chartEnd => exact ownChartEnd_changes _ _ s
  | abortSong => exact ownAbortSong_changes _ s
  | clearStation => exact ownClearStation_changes _ s
  | armPresence => exact (play_ownArmPresence (field8 b 0) s).symm ▸ .refl
  | seedBaseline => exact (play_ownSeedBaseline (field8 b 0) s).symm ▸ .refl
  | startSong => exact ownStartSong_changes _ s
  | stopSong => exact ownStopSong_changes s
  | anchor => exact ownAnchor_changes _ s
  | getStatus => exact (ownGetStatus_state (field8 b 0) (field8 b 1) s).symm ▸ .refl
  | getTally => exact (ownGetTally_state (field8 b 0) s).symm ▸ .refl
  | getResult => exact (ownGetResult_state (field8 b 0) s).symm ▸ .refl
  | getSensors => exact (ownGetSensors_state (field8 b 0) s).symm ▸ .refl
  | getFaults => exact .refl
  | getLinkCounts => exact (PlayChange.clearLost _).chain
  | resetPlay => exact (PlayChange.resetPlay _).chain

/-- A frame is executed as its request, or answered without changing the play blocks (R171). -/
theorem frameOwner_changes (kind : Byte) (b : List Byte) (s : State) :
    PlayChanges s.play (frameOwner kind b s).2.play := by
  unfold frameOwner
  split
  next => exact .refl
  next row _ => split <;> [exact ownerOf_changes _ b s; exact .refl]

theorem admitNoteBlock_changes (payload : List Byte) (s : State) :
    PlayChanges s.play (admitNoteBlock payload s).2.play := by
  unfold admitNoteBlock
  split <;> [exact ownNoteBlock_changes payload s; exact .refl]

/-- The taking of a request adds nothing to its owner's changes of the play blocks. -/
theorem serve_changes {kind tag : Byte} {owner : Owner} (h : ∀ s, PlayChanges s.play (owner s).2.play) (s : State) :
    PlayChanges s.play (serve kind tag owner s).play := by
  unfold serve
  dsimp only
  split
  next => exact .refl
  next => exact h s.counted

theorem rxByte_changes (b : Byte) (s : State) : PlayChanges s.play (rxByte b s).play := by
  unfold rxByte
  split
  next => split <;> exact .refl
  next => split <;> exact .refl
  next =>
    dsimp only
    split
    next =>
      unfold takeFrame
      dsimp only
      split
      next => exact serve_changes (fun s => frameOwner_changes _ _ s) (s.modLink _)
      next => exact .refl
    next => exact .refl

theorem whenLive_changes {f : State → State} (h : ∀ s, PlayChanges s.play (f s).play) (s : State) :
    PlayChanges s.play (whenLive f s).play := by
  unfold whenLive
  split <;> [exact h s; exact .refl]

/-! ### Every command, and the crystal -/

/-- Every command completes (R179: the part has no faults). -/
theorem exec_eq_runs (c : Instr) (s : State) : exec c s = .next (s.runs c) := by cases c <;> rfl

/-- A request that a ready part executes makes its owner's changes. -/
theorem request_changes {kind tag : Byte} {owner : Owner} (h : ∀ s, PlayChanges s.play (owner s).2.play) (s : State) :
    PlayChanges s.play (whenLive (serve kind tag owner) s).play := whenLive_changes (fun s => serve_changes h s) s

theorem takeRow_changes (i : StationId) (kind : Deadline → Bool) (s : State) :
    PlayChanges s.play (whenLive (takeRow i kind) s).play :=
  whenLive_changes (fun s => s.play.takeIf_changes i _ kind) s

theorem PlayChanges.of_eq {p q : Play} (h : q = p) : PlayChanges p q := h ▸ .refl

/-- Every command makes a chain of changes of the play blocks. -/
theorem runs_changes (c : Instr) (s : State) : PlayChanges s.play (s.runs c).play := by
  cases c with
  | powerOn => exact (PlayChange.restart _ _).chain
  | pinResetAssert => exact .refl
  | pinResetRelease =>
    change PlayChanges s.play (pinResetRelease s).play
    unfold pinResetRelease
    split
    next => exact .refl
    next => split <;> [exact (PlayChange.restart _ _).chain; exact .refl]
  | rxByte b => exact whenLive_changes (rxByte_changes b) s
  | gapTimeout => exact whenLive_changes (fun s => .of_eq (play_gapTimeout s)) s
  | configTiming tag rate tolerance => exact request_changes (ownConfigTiming_changes rate tolerance) s
  | configJudge tag selector f => exact request_changes (ownConfigJudge_changes selector f) s
  | configHolds tag grace rollGap => exact request_changes (ownConfigHolds_changes grace rollGap) s
  | configScoring tag rows => exact request_changes (ownConfigScoring_changes rows) s
  | configPanels tag f => exact request_changes (fun s => .of_eq (play_ownConfigPanels f s)) s
  | configCombo tag f => exact request_changes (fun s => .of_eq (play_ownConfigCombo f s)) s
  | configReports tag stations =>
    exact request_changes (owner := ownConfigReports stations) (fun s => (PlayChange.configReports s.play _).chain) s
  | setLamps tag f => exact request_changes (ownSetLamps_changes f) s
  | loadStation tag f => exact request_changes (ownLoadStation_changes f) s
  | noteBlock tag payload => exact request_changes (admitNoteBlock_changes payload) s
  | chartEnd tag station endTime => exact request_changes (ownChartEnd_changes station endTime) s
  | abortSong tag stations => exact request_changes (ownAbortSong_changes stations) s
  | clearStation tag station => exact request_changes (ownClearStation_changes station) s
  | armPresence tag station => exact request_changes (fun s => .of_eq (play_ownArmPresence station s)) s
  | seedBaseline tag station => exact request_changes (fun s => .of_eq (play_ownSeedBaseline station s)) s
  | startSong tag start => exact request_changes (ownStartSong_changes start) s
  | stopSong tag => exact request_changes ownStopSong_changes s
  | anchor tag time => exact request_changes (ownAnchor_changes time) s
  | getStatus tag sect station =>
    exact request_changes (fun s => .of_eq (by rw [ownGetStatus_state sect station])) s
  | getTally tag station => exact request_changes (fun s => .of_eq (by rw [ownGetTally_state station])) s
  | getResult tag station => exact request_changes (fun s => .of_eq (by rw [ownGetResult_state station])) s
  | getSensors tag station => exact request_changes (fun s => .of_eq (by rw [ownGetSensors_state station])) s
  | getFaults tag => exact request_changes (owner := ownGetFaults) (fun s => .of_eq rfl) s
  | getLinkCounts tag =>
    exact request_changes (owner := ownGetLinkCounts) (fun s => (PlayChange.clearLost s.play).chain) s
  | resetPlay tag => exact request_changes (owner := ownResetPlay) (fun s => (PlayChange.resetPlay s.play).chain) s
  | txFrameBegin => exact whenLive_changes txFrameBegin_changes s
  | txFrameEnd => exact whenLive_changes txFrameEnd_changes s
  | audclkEdge => exact whenLive_changes audclkEdge_changes s
  | holdoverTick => exact whenLive_changes holdoverTick_changes s
  | lossTimerExpiry => exact whenLive_changes lossTimerExpiry_changes s
  | sourceReturn => exact whenLive_changes sourceReturn_changes s
  | noteClose i => exact takeRow_changes i _ s
  | headClose i => exact takeRow_changes i _ s
  | mineCheck i => exact takeRow_changes i _ s
  | mineClose i => exact takeRow_changes i _ s
  | effectiveEndReached i => exact takeRow_changes i _ s
  | holdDeadlineReached i => exact takeRow_changes i _ s
  | syntheticPress i => exact takeRow_changes i _ s
  | syntheticRelease i => exact takeRow_changes i _ s
  | rollPress i => exact takeRow_changes i _ s
  | starvation i => exact takeRow_changes i _ s
  | songEndReached i =>
    exact whenLive_changes (f := fun s => s.modPlay fun p => p.drainTest i) (fun s => s.play.drainTest_changes i) s
  | scanStart => exact whenLive_changes (f := scanStart) (fun s => .refl) s
  | scanComplete i samples =>
    refine whenLive_changes (fun s => ?_) s
    unfold scanComplete
    split <;> [exact completeScan_changes s i samples; exact .refl]
  | baselineLearn =>
    refine whenLive_changes (fun s => ?_) s
    unfold baselineLearn
    split <;> [exact scanRest_changes s; exact .refl]
  | channelBlockEnd =>
    refine whenLive_changes (fun s => ?_) s
    unfold channelBlockEnd
    split <;> [exact scanRest_changes s; exact .refl]
  | pressConfirm i j => exact whenLive_changes (fun s => pressConfirm_changes s i j) s
  | releaseConfirm i j => exact whenLive_changes (fun s => releaseConfirm_changes s i j) s
  | stuckExit i j => exact whenLive_changes (fun s => .of_eq (play_stuckExit s i j)) s
  | panelStuck i j => exact whenLive_changes (fun s => panelStuck_changes s i j) s
  | occupancyVacant i =>
    refine whenLive_changes (fun s => ?_) s
    unfold occupancyVacant
    split <;> [exact becomeVacant_changes s i; exact .refl]
  | serviceCombo i =>
    refine whenLive_changes (fun s => ?_) s
    unfold serviceCombo
    dsimp only
    split <;> [exact fireCombo_changes s i; exact .refl]
  | flashEnd i j => exact whenLive_changes (f := flashEnd i j) (fun s => (PlayChange.flashEnd s.play i j).chain) s
  | pwmPeriodStart => exact whenLive_changes pwmPeriodStart_changes s
  | lampChainLatch => exact whenLive_changes (f := lampChainLatch) (fun s => .refl) s
  | powerLoss => exact .refl

theorem onMicro_changes {f : State → State} (h : ∀ s, PlayChanges s.play (f s).play) (s : State) :
    PlayChanges s.play (onMicro f s).play := by
  unfold onMicro
  split <;> [exact h s; exact .refl]

theorem beginMicro_changes (s : State) : PlayChanges s.play (beginMicro s).play := by
  have hscan : ∀ s : State, (scanIfDue s).play = s.play := by intro s; unfold scanIfDue; split <;> rfl
  have hlatch : ∀ s : State, (latchIfDue s).play = s.play := by intro s; unfold latchIfDue; split <;> rfl
  unfold beginMicro
  rw [hlatch]
  unfold pwmIfDue
  split <;> [exact hscan s ▸ pwmPeriodStart_changes (scanIfDue s); exact .of_eq (hscan s)]

theorem lossTick_changes (s : State) : PlayChanges s.play (lossTick s).play := by
  unfold lossTick
  split
  next => exact .refl
  next => split <;> [exact lossTimerExpiry_changes s; exact (PlayChange.lossTick _).chain]

theorem play_gapTick (s : State) : (gapTick s).play = s.play := by
  unfold gapTick
  split
  next => rfl
  next => split <;> [exact play_gapTimeout s; rfl]

theorem sendTick_changes (s : State) : PlayChanges s.play (sendTick s).play := by
  unfold sendTick
  split
  next => exact .refl
  next => split <;> [exact txFrameEnd_changes s; exact .refl]

theorem crystalPeriod_changes (s : State) : PlayChanges s.play (crystalPeriod s).play := by
  unfold crystalPeriod
  have hperiod : ∀ s : State, PlayChanges s.play s.nextPeriod.play := fun s => (PlayChange.flashTick s.play).chain
  have hmicro : ∀ s : State, PlayChanges s.play (endMicro s).play := holdoverTick_changes
  refine Relation.ReflTransGen.trans ?_ (sendTick_changes _)
  rw [play_gapTick]
  refine Relation.ReflTransGen.trans ?_ (lossTick_changes _)
  refine Relation.ReflTransGen.trans ?_ (onMicro_changes hmicro _)
  exact ((txFrameBegin_changes s).trans (onMicro_changes beginMicro_changes _)).trans (hperiod _)

/-- Every step makes a chain of changes of the play blocks: a command's, or those of one crystal period. -/
theorem step_changes {s t : State} (h : step s = .next t) : PlayChanges s.play t.play := by
  unfold step at h
  split at h
  next =>
    obtain rfl := Host.Outcome.next.inj h
    exact whenLive_changes crystalPeriod_changes s
  next c rest _ =>
    rw [exec_eq_runs] at h
    obtain rfl := Host.Outcome.next.inj h
    exact runs_changes c { s with pending := rest }

/-- An invariant of the play blocks that every change keeps is kept by every step. -/
theorem step_keeps_play {P : Play → Prop} (hP : ∀ p q, PlayChange p q → P p → P q) {s t : State}
    (h : step s = .next t) (hs : P s.play) : P t.play := (step_changes h).keeps hP hs

end Sys2Proof.Machine

/-! ## Leaving play, by the rules (R9 to R17) -/

namespace Sys2Proof.Machine

/-! ### Readings of a station and of the four stations -/

theorem Station.noNotes_iff {st : Station} :
    st.noNotes = true ↔ st.feed.queue = [] ∧ ∀ lane : PanelId, st.holds.get lane = none := by
  simp [Station.noNotes, Station.noHolds, Nine.every_iff]

theorem Station.noNotes_eq_false {st : Station} :
    st.noNotes = false ↔ ¬ (st.feed.queue = [] ∧ ∀ lane : PanelId, st.holds.get lane = none) := by
  rw [← Station.noNotes_iff, Bool.not_eq_true]

theorem Station.inPlay_iff {st : Station} : st.inPlay = true ↔ st.state = .running ∨ st.state = .draining := by
  simp [Station.inPlay]

theorem Play.anyInPlay_iff {p : Play} : p.anyInPlay = true ↔ ∃ i : StationId, (p.station i).inPlay = true :=
  Four.any_iff _ _

theorem Play.anyInPlay_eq_false {p : Play} : p.anyInPlay = false ↔ ∀ i : StationId, (p.station i).inPlay = false :=
  Four.any_eq_false _ _

theorem Play.anyLoaded_iff {p : Play} : p.anyLoaded = true ↔ ∃ i : StationId, (p.station i).state = .loaded :=
  (Four.any_iff _ _).trans (by simp [Play.station])

theorem Play.anyLoaded_eq_false {p : Play} : p.anyLoaded = false ↔ ∀ i : StationId, (p.station i).state ≠ .loaded :=
  (Four.any_eq_false _ _).trans (by simp [Play.station])

theorem mem_stationIds (i : StationId) : i ∈ stationIds := by revert i; decide

theorem nodup_stationIds : stationIds.Nodup := by decide

/-! ### A station finished -/

/-- Finishing a station replaces its record and tells the STATION and RESULT reports (R18, R68, R106). -/
theorem Play.finish_eq (p : Play) (i : StationId) (o : SongOutcome) : p.finish i o = { p with
    stations := p.stations.set i { p.station i with
      state := .finished, outcome := some o, synth := .all .released
      tally := { (p.station i).tally with record := some ((p.station i).tally.toRecord o) } }
    reports := p.reports.pushAll [⟨p.timeline.t, .station i .finished (some o)⟩,
      ⟨p.timeline.t, .result i ((p.station i).tally.toRecord o)⟩] } := by
  unfold Play.finish Play.reportStation
  simp only [Play.station_modStation]
  rfl

theorem Play.finish_cleared (p : Play) (i : StationId) : p.finish i .cleared = { p with
    stations := p.stations.set i (p.station i).afterClearing
    reports := p.reports.pushAll [⟨p.timeline.t, .station i .finished (some .cleared)⟩,
      ⟨p.timeline.t, .result i ((p.station i).tally.toRecord .cleared)⟩] } := p.finish_eq i _

theorem Play.discardFinish_eq (p : Play) (i : StationId) (o : SongOutcome) : p.discardFinish i o = { p with
    stations := p.stations.set i ((p.station i).afterDiscard o)
    reports := p.reports.pushAll [⟨p.timeline.t, .station i .finished (some o)⟩,
      ⟨p.timeline.t, .result i (((p.station i).afterDiscard o).tally.toRecord o)⟩] } := by
  have hs : (p.modStation i Station.discard).stations = p.stations.set i (p.station i).discard := rfl
  rw [Play.discardFinish, Play.finish_eq, Play.station_modStation, hs, Four.set_set]
  rfl

/-! ### The tests that may stop the timeline -/

theorem Play.stopTimeline_eq (p : Play) : p.stopTimeline = p.stoppedByRules := rfl

/-- A timeline that runs is stopped by no abandoned start. -/
theorem Play.abortTests_of_running {p : Play} (h : p.timeline.state = .running) : p.abortTests = p.autoStop := by
  unfold Play.abortTests Play.abandonStart
  rw [if_neg]
  intro hs
  rw [Bool.and_eq_true, decide_eq_true_eq] at hs
  rcases p.autoStop_timeline with ht | ⟨-, ht⟩
  · rw [ht, h] at hs; cases hs.1
  · rw [ht] at hs; cases hs.1

theorem Play.autoStop_of_not_running {p : Play} (h : p.timeline.state ≠ .running) : p.autoStop = p := by
  simp [Play.autoStop, h]

theorem Play.autoStop_eq (p : Play) : p.autoStop
    = if p.timeline.state = .running ∧ ∀ i : StationId, (p.station i).inPlay = false then p.stoppedByRules else p := by
  simp [Play.autoStop, Play.anyInPlay_eq_false, Play.stopTimeline_eq]

theorem Play.abandonStart_eq (p : Play) : p.abandonStart
    = if p.timeline.state = .starting ∧ ∀ i : StationId, (p.station i).state ≠ .loaded then p.stoppedByRules else p := by
  simp [Play.abandonStart, Play.anyLoaded_eq_false, Play.stopTimeline_eq]

/-- The tests after an abort are the test of R8 and R17. -/
theorem Play.abortTests_eq (p : Play) : p.abortTests = p.abortTestByRules := by
  by_cases hr : p.timeline.state = .running
  · rw [Play.abortTests_of_running hr, Play.autoStop_eq, Play.abortTestByRules]
    simp [hr]
  · rw [Play.abortTests, Play.autoStop_of_not_running hr, Play.abandonStart_eq, Play.abortTestByRules]
    simp [hr]

@[simp] theorem Play.station_abortTestByRules (p : Play) (i : StationId) : p.abortTestByRules.station i = p.station i := by
  rw [← Play.abortTests_eq, Play.station_abortTests]

/-! ### Aborts -/

/-- A station handled by an abort (R13). -/
def Station.afterAbort (st : Station) : Station :=
  match st.state with
  | .idle => st
  | .loaded => st.afterDiscard .aborted
  | .running => st.afterDiscard .aborted
  | .draining => if st.noNotes then st.afterClearing else st.afterDiscard .aborted
  | .finished => st

/-- The code of a station handled by an abort (R13). -/
def Station.abortCode (st : Station) : Status :=
  match st.state with
  | .idle => .busy
  | .loaded => .ok
  | .running => .ok
  | .draining => if st.noNotes then .tooLate else .ok
  | .finished => .tooLate

section

variable (p : Play) (i : StationId)

/-- What the table of R13 makes of the play blocks, by the station's state. -/
theorem Play.abortByRules_eq : p.abortByRules i =
    match (p.station i).state with
    | .idle => p
    | .loaded => p.discardFinish i .aborted
    | .running => p.discardFinish i .aborted
    | .draining => if (p.station i).noNotes then p.finish i .cleared else p.discardFinish i .aborted
    | .finished => p := by
  cases h : (p.station i).state with
  | idle => simp only [Play.abortByRules, h]
  | loaded => simp only [Play.abortByRules, h, Play.discardFinish_eq]
  | running => simp only [Play.abortByRules, h, Play.discardFinish_eq]
  | draining =>
    by_cases hn : (p.station i).noNotes = true
    · simp only [Play.abortByRules, h, hn, if_true, if_pos (Station.noNotes_iff.mp hn), Play.finish_cleared]
      rfl
    · rw [Bool.not_eq_true] at hn
      simp only [Play.abortByRules, h, hn, Bool.false_eq_true, if_false, if_neg (Station.noNotes_eq_false.mp hn),
        Play.discardFinish_eq]
  | finished => simp only [Play.abortByRules, h]

/-- One station's abort is the table of R13. -/
theorem Play.abortStation_eq : p.abortStation i = (p.abortByRules i, (p.station i).abortCode) := by
  rw [Play.abortByRules_eq]
  unfold Play.abortStation Station.abortCode
  cases (p.station i).state with
  | draining => dsimp only; split <;> rfl
  | idle | loaded | running | finished => rfl

/-- What an abort makes of the play blocks: its station, and the reports. -/
theorem Play.abortByRules_frame : ∃ q, p.abortByRules i =
    { p with stations := p.stations.set i (p.station i).afterAbort, reports := q } := by
  have hself : p = { p with stations := p.stations.set i (p.station i) } := by simp [Play.station]
  rw [Play.abortByRules_eq]
  unfold Station.afterAbort
  cases (p.station i).state with
  | idle => exact ⟨p.reports, hself⟩
  | loaded => exact ⟨_, p.discardFinish_eq i .aborted⟩
  | running => exact ⟨_, p.discardFinish_eq i .aborted⟩
  | draining =>
    dsimp only
    split
    next => exact ⟨_, p.finish_cleared i⟩
    next => exact ⟨_, p.discardFinish_eq i .aborted⟩
  | finished => exact ⟨p.reports, hself⟩

theorem Play.station_abortByRules (j : StationId) :
    (p.abortByRules i).station j = if j = i then (p.station i).afterAbort else p.station j := by
  obtain ⟨q, h⟩ := p.abortByRules_frame i
  rw [h]
  exact Four.get_set _ _ _ _

/-- An abort leaves no station it handled LOADED or in play. -/
theorem Station.afterAbort_state (st : Station) :
    st.afterAbort.state = .finished ∨ st.state = .idle ∧ st.afterAbort = st := by
  unfold Station.afterAbort
  cases h : st.state with
  | idle => exact .inr ⟨rfl, rfl⟩
  | loaded => exact .inl rfl
  | running => exact .inl rfl
  | draining => dsimp only; split <;> exact .inl rfl
  | finished => exact .inl h

end

/-- Stations aborted one after another, by the table of R13. -/
theorem Play.abortStations_eq (p : Play) (is : List StationId) :
    (p.abortStations is).1 = is.foldl Play.abortByRules p := by
  induction is generalizing p with
  | nil => rfl
  | cons i is ih => simp only [Play.abortStations, Play.abortStation_eq, List.foldl_cons, ih]

/-- The codes of aborted stations are those of the stations as they stood: each is named once. -/
theorem Play.abortStations_codes (p : Play) {is : List StationId} (h : is.Nodup) :
    (p.abortStations is).2 = is.map fun i => (i, (p.station i).abortCode) := by
  induction is generalizing p with
  | nil => rfl
  | cons i is ih =>
    obtain ⟨hi, h⟩ := List.nodup_cons.mp h
    simp only [Play.abortStations, Play.abortStation_eq, List.map_cons, ih _ h, List.cons.injEq, true_and]
    refine List.map_congr_left fun j hj => ?_
    rw [Play.station_abortByRules, if_neg (by rintro rfl; exact hi hj)]

theorem Play.station_abortAll (p : Play) {is : List StationId} (h : is.Nodup) (j : StationId) :
    (is.foldl Play.abortByRules p).station j = if j ∈ is then (p.station j).afterAbort else p.station j := by
  induction is generalizing p with
  | nil => simp
  | cons i is ih =>
    obtain ⟨hi, h⟩ := List.nodup_cons.mp h
    rw [List.foldl_cons, ih _ h, Play.station_abortByRules]
    by_cases hj : j = i
    · subst hj; simp [hi]
    · simp [hj]

/-- Aborts change the stations and the reports alone. -/
theorem Play.abortAll_frame (p : Play) (is : List StationId) :
    ∃ f q, is.foldl Play.abortByRules p = { p with stations := f, reports := q } := by
  induction is generalizing p with
  | nil => exact ⟨p.stations, p.reports, rfl⟩
  | cons i is ih =>
    obtain ⟨f, q, h⟩ := ih (p.abortByRules i)
    obtain ⟨q', h'⟩ := p.abortByRules_frame i
    exact ⟨f, q, by rw [List.foldl_cons, h, h']⟩

end Sys2Proof.Machine

/-! ## Station states, items and the timeline agree (O58) -/

namespace Sys2Proof.Machine

/-! ### One station -/

/-- A station's items agree with its state, its life apart: the clauses of `Station.Coherent` but the last, and the lawful holds. -/
structure Station.Placed (st : Station) : Prop where
  outcome : st.outcome.isSome ↔ st.state = .finished
  record : st.tally.record.isSome ↔ st.state = .finished
  mask : st.laneMask.isSome ↔ st.state ≠ .idle
  queue : st.feed.queue ≠ [] → st.state = .loaded ∨ st.inPlay = true
  holds : st.HoldsLawful

theorem Station.placed_idle (c : JudgeConfig) : (Station.idle c).Placed :=
  ⟨by simp [Station.idle], by simp [Station.idle, Tally.zero], by simp [Station.idle],
    by simp [Station.idle, Feed.empty], by simp [Station.idle], by simp [Station.idle, SynthLane.released]⟩

theorem Station.placed_load (c : JudgeConfig) (m : LaneSet) (u l : Nat) (a f : Bool) : (Station.load c m u l a f).Placed :=
  ⟨by simp [Station.load, Station.idle], by simp [Station.load, Tally.zero], by simp [Station.load],
    by simp [Station.load], by simp [Station.load, Station.idle],
    by simp [Station.load, Station.idle, SynthLane.released]⟩

/-- A record change that keeps a station's state keeps it placed (R22, R68, R75). -/
theorem StationMove.placed {table : PerResult ScoreRow} {st u : Station} (h : StationMove table st u) (hp : st.Placed) :
    u.Placed := by
  obtain ⟨hout, hrec, hmask, hqueue, hlane, hsynth⟩ := hp
  cases h with
  | result r => exact ⟨hout, hrec, hmask, hqueue, hlane, hsynth⟩
  | stray => exact ⟨hout, hrec, hmask, hqueue, hlane, hsynth⟩
  | void => exact ⟨hout, hrec, hmask, hqueue, hlane, hsynth⟩
  | queue q hq =>
    refine ⟨hout, hrec, hmask, fun hne => hqueue fun he => hne ?_, hlane, hsynth⟩
    simpa [he] using hq
  | starve => exact ⟨hout, hrec, hmask, hqueue, hlane, hsynth⟩
  | hold lane e hok =>
    refine ⟨hout, hrec, hmask, hqueue, fun lane' hl => ?_, hsynth⟩
    simp only [Nine.get_set] at hl
    split at hl
    next heq =>
      have hboth : st.inPlay = true ∧ LaneSet.has st.mask lane = true := hok.elim id (hlane lane)
      exact heq ▸ hboth
    next => exact hlane lane' hl
  | unhold lane =>
    refine ⟨hout, hrec, hmask, hqueue, fun lane' hl => ?_, hsynth⟩
    simp only [Nine.get_set] at hl
    split at hl
    next => cases hl
    next => exact hlane lane' hl
  | synth lane l hin => exact ⟨hout, hrec, hmask, hqueue, hlane, fun _ _ => hin⟩
  | unsynth lane =>
    refine ⟨hout, hrec, hmask, hqueue, hlane, fun lane' hl => ?_⟩
    simp only [Nine.get_set] at hl
    split at hl
    next => simp [SynthLane.released] at hl
    next => exact hsynth lane' hl

theorem Station.Placed.afterDiscard {st : Station} (h : st.Placed) (hs : st.state ≠ .idle) (o : SongOutcome) :
    (st.afterDiscard o).Placed :=
  ⟨by simp [Station.afterDiscard], by simp [Station.afterDiscard],
    by simpa [Station.afterDiscard, hs] using h.mask, by simp [Station.afterDiscard],
    by simp [Station.afterDiscard], by simp [Station.afterDiscard]⟩

theorem Station.Placed.afterClearing {st : Station} (h : st.Placed) (hs : st.state ≠ .idle) (hn : st.noNotes = true) :
    st.afterClearing.Placed := by
  obtain ⟨hq, hh⟩ := Station.noNotes_iff.mp hn
  exact ⟨by simp [Station.afterClearing], by simp [Station.afterClearing],
    by simpa [Station.afterClearing, hs] using h.mask, fun hne => absurd hq hne,
    fun lane hl => by simp [Station.afterClearing, hh lane] at hl, by simp [Station.afterClearing]⟩

theorem Station.Placed.afterAbort {st : Station} (h : st.Placed) : st.afterAbort.Placed := by
  unfold Station.afterAbort
  cases hs : st.state with
  | idle => exact h
  | loaded => exact h.afterDiscard (by simp [hs]) _
  | running => exact h.afterDiscard (by simp [hs]) _
  | draining =>
    dsimp only
    split
    next hn => exact h.afterClearing (by simp [hs]) hn
    next => exact h.afterDiscard (by simp [hs]) _
  | finished => exact h

/-- What keeps a station's items, with a state of the same side of play, keeps it placed. -/
theorem Station.Placed.of_kept {st u : Station} (h : st.Placed) (ho : u.outcome = st.outcome)
    (hr : u.tally.record = st.tally.record) (hm : u.laneMask = st.laneMask) (hq : u.feed.queue = st.feed.queue)
    (hh : u.holds = st.holds) (hy : u.synth = st.synth) (hf : u.state = .finished ↔ st.state = .finished)
    (hi : u.state = .idle ↔ st.state = .idle) (hp : st.inPlay = true → u.inPlay = true)
    (hl : st.state = .loaded → u.state = .loaded ∨ u.inPlay = true) : u.Placed where
  outcome := by rw [ho, hf]; exact h.outcome
  record := by rw [hr, hf]; exact h.record
  mask := by rw [hm, Ne, hi]; exact h.mask
  queue hne := (h.queue (hq ▸ hne)).elim hl fun hin => .inr (hp hin)
  holds := by
    obtain ⟨hlane, hsynth⟩ := h.holds
    refine ⟨fun lane hsome => ?_, fun lane hs => hp (hsynth lane (hy ▸ hs))⟩
    obtain ⟨hin, hhas⟩ := hlane lane (hh ▸ hsome)
    exact ⟨hp hin, by simpa [Station.mask, hm] using hhas⟩

/-! ### The phases of the timeline -/

/-- The phases agree, but that the timeline may still run or wait for stations that have left: what holds between a station's
leaving and the test that may stop the timeline (R8, R17). -/
structure Play.PhasesOpen (p : Play) : Prop where
  runs : p.anyInPlay = true → p.timeline.state = .running
  pending : p.timeline.state = .starting ↔ p.timeline.pendingStart.isSome
  source : p.timeline.state = .starting → p.timeline.source = .external
  entered : p.timeline.state = .running → p.anyLoaded = false

theorem Play.PhasesAgree.toOpen {p : Play} (h : p.PhasesAgree) : p.PhasesOpen := by
  obtain ⟨hrun, hpend, hstart, hload⟩ := h
  exact ⟨hrun.mpr, hpend, fun hs => (hstart hs).2, hload⟩

/-- Phases depend on the stations' play and on the timeline's state, pending start and source. -/
theorem Play.PhasesAgree.of_kept {p q : Play} (h : p.PhasesAgree)
    (hi : ∀ j, (q.station j).inPlay = (p.station j).inPlay)
    (hl : ∀ j, (q.station j).state = .loaded ↔ (p.station j).state = .loaded)
    (hs : q.timeline.state = p.timeline.state) (hp : q.timeline.pendingStart = p.timeline.pendingStart)
    (hx : q.timeline.source = p.timeline.source ∨ p.timeline.state ≠ .starting) : q.PhasesAgree := by
  obtain ⟨hrun, hpend, hstart, hload⟩ := h
  have hin : q.anyInPlay = true ↔ p.anyInPlay = true := by simp only [Play.anyInPlay_iff, hi]
  have hany : q.anyLoaded = p.anyLoaded := by rw [Bool.eq_iff_iff]; simp only [Play.anyLoaded_iff, hl]
  refine ⟨by rw [hs, hin]; exact hrun, by rw [hs, hp]; exact hpend, fun hw => ?_, by rw [hs, hany]; exact hload⟩
  rw [hs] at hw
  exact ⟨hany ▸ (hstart hw).1, hx.elim (fun e => e ▸ (hstart hw).2) fun hn => absurd hw hn⟩

/-- The timeline stopped with no station in play agrees with the stations. -/
theorem Play.phasesAgree_of_stopped {p : Play} (hs : p.timeline.state = .stopped) (hp : p.timeline.pendingStart = none)
    (hi : p.anyInPlay = false) : p.PhasesAgree := by simp [Play.PhasesAgree, hs, hp, hi]

/-- Stations that leave play or the LOADED state leave the phases open. -/
theorem Play.PhasesOpen.of_left {p q : Play} (h : p.PhasesOpen)
    (hst : ∀ j, q.station j = p.station j ∨ (q.station j).inPlay = false ∧ (q.station j).state ≠ .loaded)
    (ht : q.timeline = p.timeline) : q.PhasesOpen where
  runs hin := by
    obtain ⟨j, hj⟩ := Play.anyInPlay_iff.mp hin
    rcases hst j with he | ⟨hn, -⟩
    · rw [ht]; exact h.runs (Play.anyInPlay_iff.mpr ⟨j, he ▸ hj⟩)
    · rw [hj] at hn; cases hn
  pending := ht ▸ h.pending
  source := ht ▸ h.source
  entered hr := by
    rw [ht] at hr
    have hl := Play.anyLoaded_eq_false.mp (h.entered hr)
    refine Play.anyLoaded_eq_false.mpr fun j => ?_
    rcases hst j with he | ⟨-, hn⟩
    · rw [he]; exact hl j
    · exact hn

/-- The tests after an abort close the phases again. -/
theorem Play.PhasesOpen.abortTests {p : Play} (h : p.PhasesOpen) : p.abortTests.PhasesAgree := by
  rw [Play.abortTests_eq]
  unfold Play.abortTestByRules
  split
  next hstop =>
    refine Play.phasesAgree_of_stopped rfl rfl (Play.anyInPlay_eq_false.mpr fun j => ?_)
    rcases hstop with ⟨-, hn⟩ | ⟨hw, -⟩
    · exact hn j
    · refine Bool.eq_false_iff.mpr fun hj => ?_
      have hr := h.runs (Play.anyInPlay_iff.mpr ⟨j, hj⟩)
      rw [hw] at hr; cases hr
  next hkeep =>
    rw [not_or] at hkeep
    obtain ⟨hrun, hwait⟩ := hkeep
    refine ⟨⟨fun hr => ?_, h.runs⟩, h.pending, fun hs => ⟨?_, h.source hs⟩, h.entered⟩
    · by_contra hn
      exact hrun ⟨hr, Play.anyInPlay_eq_false.mp (by simpa using hn)⟩
    · by_contra hn
      exact hwait ⟨hs, Play.anyLoaded_eq_false.mp (by simpa using hn)⟩

/-! ### The play blocks -/

/-- The invariant of `State.PlayCoherent`, of the play blocks alone. -/
structure Play.Coherent (p : Play) : Prop where
  placed : ∀ i, (p.station i).Placed
  alive : ∀ i, p.Alive i
  phases : p.PhasesAgree

theorem State.playCoherent_iff {s : State} : s.PlayCoherent ↔ s.play.Coherent := by
  constructor
  · rintro ⟨hst, hphase⟩
    refine ⟨fun i => ?_, fun i => ?_, hphase⟩ <;> obtain ⟨⟨hout, hrec, hmask, hqueue, hlife⟩, hholds⟩ := hst i
    · exact ⟨hout, hrec, hmask, hqueue, hholds⟩
    · exact hlife
  · rintro ⟨hplaced, halive, hphase⟩
    refine ⟨fun i => ?_, hphase⟩
    obtain ⟨hout, hrec, hmask, hqueue, hholds⟩ := hplaced i
    exact ⟨⟨hout, hrec, hmask, hqueue, halive i⟩, hholds⟩

/-- What leaves every station and the timeline's phase as they were keeps the play blocks coherent. -/
theorem Play.Coherent.of_same {p q : Play} (h : p.Coherent) (hst : ∀ j, q.station j = p.station j)
    (hs : q.timeline.state = p.timeline.state) (hp : q.timeline.pendingStart = p.timeline.pendingStart)
    (hx : q.timeline.source = p.timeline.source ∨ p.timeline.state ≠ .starting) : q.Coherent where
  placed i := by rw [hst i]; exact h.placed i
  alive i := (h.alive i).of_kept (by rw [hst i]) (by rw [hst i]) (by rw [hst i])
  phases := h.phases.of_kept (fun j => by rw [hst j]) (fun j => by rw [hst j]) hs hp hx

/-- One station's record changed, its items lawful and its phase kept. -/
theorem Play.Coherent.setStation {p : Play} (h : p.Coherent) (i : StationId) (u : Station) (hu : u.Placed)
    (ha : u.state = .loaded ∨ u.inPlay = true → ¬ u.Fails) (hi : u.inPlay = (p.station i).inPlay)
    (hl : (u.state = .loaded ↔ (p.station i).state = .loaded) ∨ p.timeline.state = .stopped) :
    (p.setStation i u).Coherent := by
  have hst : ∀ j, (p.setStation i u).station j = if j = i then u else p.station j := fun j => Four.get_set _ _ _ _
  have hin : ∀ j, ((p.setStation i u).station j).inPlay = (p.station j).inPlay := fun j => by
    rw [hst j]
    by_cases hj : j = i <;> simp [hj, hi]
  refine ⟨fun j => ?_, fun j => ?_, ?_⟩
  · rw [hst j]
    split <;> [exact hu; exact h.placed j]
  · unfold Play.Alive
    rw [hst j]
    split <;> [exact ha; exact h.alive j]
  · rcases hl with hl | hstop
    · refine h.phases.of_kept hin (fun j => ?_) rfl rfl (.inl rfl)
      rw [hst j]
      by_cases hj : j = i <;> simp [hj, hl]
    · obtain ⟨hrun, hpend, -, -⟩ := h.phases
      have hnone : p.timeline.pendingStart = none := by simpa [hstop] using hpend
      refine Play.phasesAgree_of_stopped hstop hnone ?_
      · rw [Play.anyInPlay_eq_false]
        intro j
        rw [hin j]
        exact Play.anyInPlay_eq_false.mp (by simpa [hstop] using hrun) j

/-! ### Settlements -/

/-- A station in play that leaves it, with the test that may stop the timeline, leaves the play blocks in agreement. -/
theorem Play.left_autoStop {i : StationId} {p : Play} {u : Station} {q : ReportQueue} (hp : ∀ j, (p.station j).Placed)
    (hx : p.PhasesAgree) (hin : (p.station i).inPlay = true) (hu : u.Placed) (hf : u.state = .finished) :
    (∀ j, ((Play.autoStop { p with stations := p.stations.set i u, reports := q }).station j).Placed)
      ∧ (Play.autoStop { p with stations := p.stations.set i u, reports := q }).PhasesAgree := by
  have hrun : p.timeline.state = .running := hx.1.mpr (Play.anyInPlay_iff.mpr ⟨i, hin⟩)
  have hst : ∀ j, Play.station { p with stations := p.stations.set i u, reports := q } j
      = if j = i then u else p.station j := fun j => Four.get_set _ _ _ _
  constructor
  · intro j
    rw [Play.station_autoStop, hst]
    split <;> [exact hu; exact hp j]
  · rw [← Play.abortTests_of_running (by exact hrun)]
    refine Play.PhasesOpen.abortTests (hx.toOpen.of_left (fun j => ?_) rfl)
    rw [hst]
    by_cases hj : j = i
    · exact .inr (by simp [hj, hf, Station.inPlay])
    · exact .inl (by simp [hj])

/-- A move keeps every station placed and the phases in agreement. -/
theorem PlayMove.keeps_placed {i : StationId} {p q : Play} (h : PlayMove i p q)
    (hp : (∀ j, (p.station j).Placed) ∧ p.PhasesAgree) : (∀ j, (q.station j).Placed) ∧ q.PhasesAgree := by
  obtain ⟨hp, hx⟩ := hp
  cases h with
  | report b => exact ⟨hp, hx⟩
  | lamps m r => exact ⟨hp, hx⟩
  | station f hf =>
    have hst : ∀ j, (p.modStation i f).station j = if j = i then f (p.station i) else p.station j :=
      fun j => Four.get_set _ _ _ _
    have hstate : ∀ j, ((p.modStation i f).station j).state = (p.station j).state := fun j => by
      rw [hst]
      split
      next hj => rw [hj, hf.state_eq]
      next => rfl
    refine ⟨fun j => ?_, hx.of_kept (fun j => ?_) (fun j => by rw [hstate]) rfl rfl (.inl rfl)⟩
    · rw [hst]
      split <;> [exact hf.placed (hp i); exact hp j]
    · simp only [Station.inPlay, hstate]
  | clear hd hn _ =>
    rw [Play.finish_cleared]
    exact Play.left_autoStop hp hx (Station.inPlay_iff.mpr (.inr hd)) ((hp i).afterClearing (by simp [hd]) hn) rfl
  | fail hin =>
    have hidle : (p.station i).state ≠ .idle := fun he => by simp [Station.inPlay, he] at hin
    rw [Play.failStation, Play.discardFinish_eq]
    exact Play.left_autoStop hp hx hin ((hp i).afterDiscard hidle _) rfl

/-- A settlement whole keeps the play blocks coherent: its moves keep the items and the phases, and it ends with the failure test. -/
theorem Play.Coherent.settle {i : StationId} {p q : Play} (h : p.Coherent) (hm : PlayMoves i p q)
    (ha : p.Alive i → q.Alive i) : q.Coherent := by
  obtain ⟨hplaced, hphase⟩ := hm.keeps (fun _ _ => PlayMove.keeps_placed) ⟨h.placed, h.phases⟩
  refine ⟨hplaced, fun j => ?_, hphase⟩
  by_cases hj : j = i
  · exact hj ▸ ha (h.alive i)
  · have he := (hm.sameBut.others j hj).1
    exact (h.alive j).of_kept (by rw [he]) (by rw [he]) (by rw [he])

/-! ### The other changes -/

/-- A chart's completion keeps the station's side of play (R6). -/
theorem Station.inPlay_completeChart (e : Int) (st : Station) : (st.completeChart e).inPlay = st.inPlay := by
  unfold Station.completeChart Station.inPlay
  by_cases h : st.state = .running <;> simp [h]

theorem Station.completeChart_state (e : Int) (st : Station) {x : StationState} (hr : x ≠ .running) (hd : x ≠ .draining) :
    (st.completeChart e).state = x ↔ st.state = x := by
  unfold Station.completeChart
  by_cases h : st.state = .running
  · simp [h, hr.symm, hd.symm]
  · simp [h]

theorem Play.Coherent.chartEnd {p : Play} (h : p.Coherent) (i : StationId) (e : Int) :
    (p.modStation i (Station.completeChart e)).Coherent := by
  have hl := (p.station i).completeChart_state e (x := .loaded) (by simp) (by simp)
  have hi := (p.station i).inPlay_completeChart e
  refine h.setStation i _ ?_ (fun hw => ?_) hi (.inl hl)
  · exact (h.placed i).of_kept rfl rfl rfl rfl rfl rfl
      ((p.station i).completeChart_state e (by simp) (by simp))
      ((p.station i).completeChart_state e (by simp) (by simp)) (fun hin => by rw [hi]; exact hin)
      fun hld => .inl (hl.mpr hld)
  · rw [hl, hi] at hw
    exact h.alive i hw

/-- Notes join a station that is LOADED or in play (R26, R30). -/
theorem Play.Coherent.joinNotes {p : Play} (h : p.Coherent) (i : StationId) (notes : List RawNote)
    (hs : (p.station i).state = .loaded ∨ (p.station i).inPlay = true) : (Play.joinNotes i notes p).Coherent := by
  induction notes generalizing p with
  | nil => exact h
  | cons n ns ih =>
    refine ih ?_ ?_
    · split
      next =>
        refine h.settle (i := i) (Relation.ReflTransGen.trans (.single (.station p _ (.void _))) (Play.report_moves _ i _))
          fun ha => ha.of_kept ?_ ?_ ?_ <;> simp [Play.voidNote]
      next =>
        refine h.setStation i _ ?_ (h.alive i) rfl (.inl Iff.rfl)
        obtain ⟨hout, hrec, hmask, -, hholds⟩ := h.placed i
        exact ⟨hout, hrec, hmask, fun _ => hs, hholds⟩
    · split
      next => simpa [Play.voidNote, Station.inPlay] using hs
      next => simpa [Station.inPlay] using hs

theorem Play.Coherent.takeBlock {p : Play} (h : p.Coherent) (i : StationId) (down : Nine Bool) (covered : Int)
    (notes : List RawNote) (ht : (p.station i).takesNotes = true) : (p.takeBlock i down covered notes).Coherent := by
  have hs : (p.station i).state = .loaded ∨ (p.station i).inPlay = true := by
    simp only [Station.takesNotes, Bool.and_eq_true, Bool.or_eq_true, beq_iff_eq] at ht
    exact ht.1.imp_right fun hr => Station.inPlay_iff.mpr (.inl hr)
  have hjoin := h.joinNotes i notes hs
  have hdues : (if ((Play.joinNotes i notes p).station i).state = .running then
      Play.takeJoinDues i down ((Play.joinNotes i notes p).dueBound i) (Play.joinNotes i notes p)
    else Play.joinNotes i notes p).Coherent := by
    split
    next => exact hjoin.settle (Play.takeJoinDues_moves _ i down _) fun ha => ha.takeJoinDues down _
    next => exact hjoin
  unfold Play.takeBlock
  dsimp only
  refine hdues.setStation i _ ?_ (hdues.alive i) rfl (.inl Iff.rfl)
  exact (hdues.placed i).of_kept rfl rfl rfl rfl rfl rfl Iff.rfl Iff.rfl id .inl

/-- Aborts one after another leave every station placed and alive, and the phases open (R12, R13). -/
theorem Play.Coherent.abortAll {p : Play} (h : p.Coherent) (is : List StationId) :
    (∀ j, ((is.foldl Play.abortByRules p).station j).Placed ∧ (is.foldl Play.abortByRules p).Alive j)
      ∧ (is.foldl Play.abortByRules p).PhasesOpen := by
  have hkeep : ∀ q : Play, ((∀ j, (q.station j).Placed ∧ q.Alive j) ∧ q.PhasesOpen) →
      (∀ j, ((is.foldl Play.abortByRules q).station j).Placed ∧ (is.foldl Play.abortByRules q).Alive j)
        ∧ (is.foldl Play.abortByRules q).PhasesOpen := by
    induction is with
    | nil => exact fun q hq => hq
    | cons i is ih =>
      rintro q ⟨hst, hopen⟩
      refine ih _ ⟨fun j => ?_, hopen.of_left (fun j => ?_) ?_⟩
      · unfold Play.Alive
        rw [Play.station_abortByRules]
        split
        next =>
          refine ⟨(hst i).1.afterAbort, fun hw => ?_⟩
          rcases (q.station i).afterAbort_state with hf | ⟨hidle, he⟩
          · simp [Station.inPlay, hf] at hw
          · simp [he, Station.inPlay, hidle] at hw
        next => exact hst j
      · rw [Play.station_abortByRules]
        split
        next =>
          refine .inr ?_
          rcases (q.station i).afterAbort_state with hf | ⟨hidle, he⟩
          · simp [Station.inPlay, hf]
          · simp [he, Station.inPlay, hidle]
        next => exact .inl rfl
      · obtain ⟨r, hr⟩ := q.abortByRules_frame i
        rw [hr]
  exact hkeep p ⟨fun j => ⟨h.placed j, h.alive j⟩, h.phases.toOpen⟩

theorem Play.Coherent.abort {p : Play} (h : p.Coherent) (is : List StationId) :
    (p.abortStations is).1.abortTests.Coherent := by
  rw [Play.abortStations_eq]
  obtain ⟨hst, hopen⟩ := h.abortAll is
  refine ⟨fun j => ?_, fun j => ?_, hopen.abortTests⟩
  · rw [Play.station_abortTests]; exact (hst j).1
  · exact (hst j).2.of_kept (by simp) (by simp) (by simp)

theorem Play.Coherent.stopPlay {p : Play} (h : p.Coherent) : p.endPlay.stopTimeline.Coherent := by
  unfold Play.endPlay
  rw [Play.abortStations_eq]
  obtain ⟨hst, -⟩ := h.abortAll (stationIds.filter fun i => (p.station i).inPlay)
  refine ⟨fun j => (hst j).1, fun j => (hst j).2,
    Play.phasesAgree_of_stopped rfl rfl (Play.anyInPlay_eq_false.mpr fun j => ?_)⟩
  rw [Play.station_stopTimeline, Play.station_abortAll _ (nodup_stationIds.filter _)]
  split
  next =>
    rcases (p.station j).afterAbort_state with hf | ⟨hidle, he⟩
    · simp [Station.inPlay, hf]
    · simp [he, Station.inPlay, hidle]
  next hj => simpa [mem_stationIds] using hj

/-- A LOADED station enters play; the others stand (R7). -/
theorem Station.enter_state (st : Station) :
    st.state = .loaded ∧ st.enter.inPlay = true ∧ st.enter.state ≠ .loaded ∨ st.state ≠ .loaded ∧ st.enter = st := by
  unfold Station.enter
  by_cases h : st.state = .loaded
  · refine .inl ⟨h, ?_⟩
    rw [if_pos h]
    cases st.feed.chartComplete <;> simp [Station.inPlay]
  · exact .inr ⟨h, by rw [if_neg h]⟩

theorem Station.Placed.enter {st : Station} (h : st.Placed) : st.enter.Placed := by
  rcases st.enter_state with ⟨hl, hin, -⟩ | ⟨-, he⟩
  · have hst : st.enter = { st with state := st.enter.state } := by unfold Station.enter; split <;> rfl
    rw [hst] at hin ⊢
    have hs := Station.inPlay_iff.mp hin
    dsimp only at hs
    refine h.of_kept rfl rfl rfl rfl rfl rfl ?_ ?_ (fun _ => hin) fun _ => .inr hin
    · rcases hs with hs | hs <;> simp [hs, hl]
    · rcases hs with hs | hs <;> simp [hs, hl]
  · rw [he]; exact h

/-- A song's start brings every LOADED station into play, and the timeline runs (R7, R119). -/
theorem Play.coherent_entered {p : Play} (hp : ∀ j, (p.station j).Placed) (ha : ∀ j, p.Alive j) (hl : p.anyLoaded = true)
    (start : Int) : (p.entered start).Coherent := by
  have hst : ∀ j, (p.entered start).station j = (p.station j).enter := fun j => Four.get_map _ _ _
  refine ⟨fun j => ?_, fun j => ?_, ⟨fun _ => ?_, fun _ => rfl⟩, by simp [Play.entered], by simp [Play.entered],
    fun _ => Play.anyLoaded_eq_false.mpr fun j => ?_⟩
  · rw [hst]; exact (hp j).enter
  · intro hw
    have hlife : (p.station j).enter.failEnable = (p.station j).failEnable
        ∧ (p.station j).enter.tally = (p.station j).tally := by
      unfold Station.enter; split <;> exact ⟨rfl, rfl⟩
    rw [hst] at hw ⊢
    simp only [Station.Fails, hlife]
    refine ha j ?_
    rcases (p.station j).enter_state with ⟨hld, -⟩ | ⟨-, he⟩
    · exact .inl hld
    · exact he ▸ hw
  · obtain ⟨j, hj⟩ := Play.anyLoaded_iff.mp hl
    refine Play.anyInPlay_iff.mpr ⟨j, ?_⟩
    rw [hst]
    rcases (p.station j).enter_state with ⟨-, hin, -⟩ | ⟨hn, -⟩
    · exact hin
    · exact absurd hj hn
  · rw [hst]
    rcases (p.station j).enter_state with ⟨-, -, hn⟩ | ⟨hn, he⟩
    · exact hn
    · rw [he]; exact hn

/-- Play blocks whose stations are all IDLE, the timeline stopped, are coherent (R20, R129). -/
theorem Play.coherent_of_idle {p : Play} (hst : ∀ j, ∃ c, p.station j = .idle c) (hs : p.timeline.state = .stopped)
    (hp : p.timeline.pendingStart = none) : p.Coherent := by
  refine ⟨fun j => ?_, fun j hw => ?_,
    Play.phasesAgree_of_stopped hs hp (Play.anyInPlay_eq_false.mpr fun j => ?_)⟩ <;> obtain ⟨c, hc⟩ := hst j
  · rw [hc]; exact Station.placed_idle c
  · simp [hc, Station.idle, Station.inPlay] at hw
  · simp [hc, Station.idle, Station.inPlay]

theorem Play.station_setLamps (p : Play) (set : LaneSet) (mode : LampMode) (named : List StationId) :
    (p.setLamps set mode named).stations = p.stations ∧ (p.setLamps set mode named).timeline = p.timeline := by
  induction named generalizing p with
  | nil => exact ⟨rfl, rfl⟩
  | cons i is ih => exact ih (p.modLamps i _)

theorem Play.Coherent.configJudge {p : Play} (h : p.Coherent) (c : JudgeConfig) (named : List StationId) :
    (p.configJudge c named).Coherent := by
  induction named generalizing p with
  | nil => exact h
  | cons i is ih =>
    refine ih (h.setStation i _ ?_ (h.alive i) rfl (.inl Iff.rfl))
    exact (h.placed i).of_kept rfl rfl rfl rfl rfl rfl Iff.rfl Iff.rfl id .inl

theorem Timeline.advance_phase (tl : Timeline) (n r : Nat) : (tl.advance n r).state = tl.state
    ∧ (tl.advance n r).pendingStart = tl.pendingStart ∧ (tl.advance n r).source = tl.source := by
  unfold Timeline.advance
  split <;> exact ⟨rfl, rfl, rfl⟩

/-- Every change a command makes keeps the play blocks coherent. -/
theorem PlayChange.coherent {p q : Play} (h : PlayChange p q) (hp : p.Coherent) : q.Coherent := by
  have same : ∀ {q : Play}, q.stations = p.stations → q.timeline = p.timeline → q.Coherent := fun hs ht =>
    hp.of_same (fun j => by rw [Play.station, hs]; rfl) (by rw [ht]) (by rw [ht]) (.inl (by rw [ht]))
  obtain ⟨-, hpend, hstart, -⟩ := hp.phases
  cases h with
  | settle i hm ha => exact hp.settle hm ha
  | report b => exact same rfl rfl
  | sendReport r rest _ => exact same rfl rfl
  | clearLost => exact same rfl rfl
  | configReports e => exact same rfl rfl
  | setLamps set f mode named _ => exact same (p.station_setLamps set mode named).1 (p.station_setLamps set mode named).2
  | evaluate downs => exact same rfl rfl
  | flashTick => exact same rfl rfl
  | flashEnd i j => exact same rfl rfl
  | configScoring rows _ => exact same rfl rfl
  | configHolds grace rollGap _ => exact same rfl rfl
  | configJudge f named _ _ => exact hp.configJudge _ named
  | configTiming rate tolerance _ _ _ => exact hp.of_same (fun _ => rfl) rfl rfl (.inl rfl)
  | load i mask units life autoplay failEnable hidle hstop _ =>
    refine hp.setStation i _ (Station.placed_load _ _ _ _ _ _) (fun _ hf => ?_) ?_ (.inr hstop)
    · have hlife : 1 ≤ (setting 1 Config.lifeMax life).value := by simp
      have hzero : (setting 1 Config.lifeMax life).value = 0 := hf.2
      omega
    · rw [Station.inPlay, Station.inPlay, hidle]; rfl
  | clear i hfin =>
    refine hp.setStation i _ (Station.placed_idle _) (fun hw => ?_) ?_ (.inl ?_)
    · simp [Station.idle, Station.inPlay] at hw
    · rw [Station.inPlay, Station.inPlay, hfin]; rfl
    · simp [Station.idle, hfin]
  | chartEnd i e _ => exact hp.chartEnd i e
  | block i down covered notes ht _ => exact hp.takeBlock i down covered notes ht
  | abort named => exact hp.abort named
  | stopWaiting hw =>
    refine ⟨hp.placed, hp.alive, Play.phasesAgree_of_stopped rfl rfl (Bool.eq_false_iff.mpr fun hin => ?_)⟩
    have hr := hp.phases.toOpen.runs hin
    rw [hw] at hr; cases hr
  | stopPlay _ => exact hp.stopPlay
  | await start hstop hl hs =>
    refine ⟨hp.placed, hp.alive, ⟨fun hr => (nomatch hr), fun hin => ?_⟩, by simp, fun _ => ⟨hl, hs⟩, fun hr => (nomatch hr)⟩
    have hr := hp.phases.toOpen.runs hin
    rw [hstop] at hr; cases hr
  | start start _ hl _ => exact Play.coherent_entered hp.placed hp.alive hl _
  | startPending start hw _ => exact Play.coherent_entered hp.placed hp.alive (hstart hw).1 _
  | startLost start hw _ => exact Play.coherent_entered (p := p.sourceLoss) hp.placed hp.alive (hstart hw).1 _
  | sourceLoss hnone =>
    refine hp.of_same (fun _ => rfl) rfl rfl (.inr fun hw => ?_)
    simpa [hnone hw] using hpend.mp hw
  | sourceReturn now hs _ =>
    refine hp.of_same (fun _ => rfl) rfl rfl (.inr fun hw => ?_)
    rw [(hstart hw).2] at hs; cases hs
  | holdoverEdge now _ _ => exact hp.of_same (fun _ => rfl) rfl rfl (.inl rfl)
  | noteEdge now => exact hp.of_same (fun _ => rfl) rfl rfl (.inl rfl)
  | lossTick => exact hp.of_same (fun _ => rfl) rfl rfl (.inl rfl)
  | accumulate _ =>
    obtain ⟨hs, hn, hx⟩ := p.timeline.advance_phase ((p.timeline.r + 1000000) / p.timeline.rate)
      ((p.timeline.r + 1000000) % p.timeline.rate)
    exact hp.of_same (fun _ => rfl) hs hn (.inl hx)
  | holdoverTick _ =>
    obtain ⟨hs, hn, hx⟩ := p.timeline.advance_phase 1 p.timeline.r
    exact hp.of_same (fun _ => rfl) hs hn (.inl hx)
  | setLock lock n _ => exact hp.of_same (fun _ => rfl) rfl rfl (.inl rfl)
  | step target => exact hp.of_same (fun _ => rfl) rfl rfl (.inl rfl)
  | afterStep b => exact same rfl rfl
  | resetPlay => exact Play.coherent_of_idle (fun j => ⟨_, Four.get_map _ _ _⟩) rfl rfl
  | restart cause => exact Play.coherent_of_idle (fun j => ⟨_, Four.get_all _ _⟩) rfl rfl

/-- Settles O58: every step is a chain of changes of the play blocks, and each change keeps them coherent. -/
theorem everyStepKeepsPlayCoherent : Obligations.EveryStepKeepsPlayCoherent := by
  intro s t hs h
  rw [State.playCoherent_iff] at hs ⊢
  exact step_keeps_play (fun _ _ => PlayChange.coherent) h hs

end Sys2Proof.Machine

/-! ## Power-on values, and the requests of station control (O6, O25, O27, O28, O29, O32, O52, O60) -/

namespace Sys2Proof.Machine

/-! ### Power-on values -/

theorem State.reset_station (i : StationId) : State.reset.play.station i = .idle .default := Four.get_all _ _

theorem State.reset_panelStation (i : StationId) : State.reset.panelStation i = .reset := Four.get_all _ _

theorem State.reset_panel (i : StationId) (j : PanelId) : State.reset.panel i j
    = { state := .released, stuckTimer := 0, stuckLatch := false, config := .default } := by
  rw [State.panel, State.reset_panelStation]
  exact Nine.get_all _ _

theorem State.reset_lamp (i : StationId) (j : PanelId) : (State.reset.play.lamps.get i).get j = .dark := by
  rw [show State.reset.play.lamps.get i = .all .dark from Four.get_all _ _, Nine.get_all]

theorem State.reset_scan (i : StationId) : State.reset.scanner.stations.get i
    = { channels := .all (.all .reset), loads := .all 0, stamp := 0 } := Four.get_all _ _

/-- Settles O6: the values stand in `State.reset` as the spec gives them, place by place. -/
theorem resetHoldsPowerOnValues : Obligations.ResetHoldsPowerOnValues := by
  refine ⟨rfl, rfl, rfl, rfl, rfl, rfl, rfl, rfl, rfl, rfl, rfl, rfl, rfl, rfl, rfl, rfl, fun i => ?_, rfl, rfl⟩
  rw [State.reset_station, State.reset_scan, State.reset_panelStation]
  refine ⟨rfl, rfl, rfl, rfl, rfl, rfl, rfl, rfl, fun lane => ?_, rfl, fun j => Nine.get_all _ _, rfl, rfl, rfl, rfl, rfl,
    rfl, rfl, rfl, rfl⟩
  rw [State.reset_lamp, State.reset_panel]
  refine ⟨Nine.get_all _ _, Nine.get_all _ _, rfl, rfl, fun corner => ?_⟩
  rw [show (Nine.all (Four.all Channel.reset)).get lane = .all .reset from Nine.get_all _ _]
  exact Four.get_all _ _

theorem Scanner.reset_inRange : State.reset.scanner.InRange := by
  refine ⟨by decide, by decide, by decide, by decide, fun i => ?_⟩
  rw [State.reset_scan]
  refine ⟨by decide, fun j => ⟨?_, fun c hc => ?_⟩⟩
  · rw [Nine.get_all]; exact Nat.zero_le _
  · rw [Nine.get_all] at hc
    have hreset : c = Channel.reset := by simpa [Four.all, Four.toList] using hc
    rw [hreset]
    decide

/-- Settles O60, block by block; coherence is that of stations all IDLE. -/
theorem resetMeetsTheInvariants : Obligations.ResetMeetsTheInvariants := by
  refine ⟨by decide, ?_, ?_, Scanner.reset_inRange, ?_, fun i => ?_⟩
  · exact State.playCoherent_iff.mpr (Play.coherent_of_idle (fun j => ⟨_, State.reset_station j⟩) rfl rfl)
  · exact ⟨by decide, by decide, by decide, by decide, by decide, by decide, by decide, by decide, by decide, fun _ h => nomatch h⟩
  · refine ⟨by decide, by decide, by decide, fun i j => ?_⟩
    rw [show State.reset.drive.chain.get i = .all 0 from Four.get_all _ _,
      show State.reset.drive.latched.get i = .all 0 from Four.get_all _ _, Nine.get_all]
    decide
  · rw [State.reset_station, State.reset_panelStation]
    refine ⟨⟨by decide, .nil, rfl⟩, ⟨fun r => ?_, by decide⟩, by decide, ⟨fun j => ?_, by decide⟩, fun j => ?_⟩
    · rw [show (Station.idle JudgeConfig.default).tally.counts = .all 0 from rfl, PerResult.get_all]
      decide
    · rw [show PanelStation.reset.panels.get j = ⟨.released, 0, false, .default⟩ from Nine.get_all _ _]
      exact ⟨trivial, by decide⟩
    · rw [State.reset_lamp]
      exact ⟨trivial, by decide⟩

/-! ### Requests -/

/-- A ready part answers the request that its owner executes. -/
theorem next_answered {kind tag : Byte} {owner : Owner} {s t : State} {a : Answer} (h : s.Ready)
    (ho : owner s.counted = (a, t.counted)) :
    (.next (whenLive (serve kind tag owner) s) : Host.Outcome State Fault Refusal) = .next (t.answered kind tag a) :=
  congrArg Host.Outcome.next (whenLive_serve_ready h ho)

theorem laneField_eq_zero {w : BitVec 16} : laneField w = 0 ↔ w.toNat % 512 = 0 := by
  simp [laneField, BitVec.toNat_eq]

/-! ### CLEAR_STATION and LOAD_STATION: what their owners answer -/

section

variable {s : State} {b : Byte} {i : StationId}

theorem ownClearStation_badArg (h : 3 < b.toNat) : ownClearStation b s = (.refuse .badArg, s) := by
  simp only [ownClearStation, stationOf_of_gt h]

theorem ownClearStation_busy (h : b.toNat = i.val) (hs : (s.play.station i).state ≠ .finished) :
    ownClearStation b s = (.refuse .busy, s) := by
  simp only [ownClearStation, stationOf_of_eq h, if_neg hs]

theorem ownClearStation_ok (h : b.toNat = i.val) (hs : (s.play.station i).state = .finished) :
    ownClearStation b s
      = (.ok [], s.modPlay fun p => (p.setStation i (.idle (s.play.station i).judge)).reportStation i) := by
  simp only [ownClearStation, stationOf_of_eq h, if_pos hs]

/-- The STATION report of a station just set (R18). -/
theorem Play.setStation_reportStation (p : Play) (i : StationId) (st : Station) :
    (p.setStation i st).reportStation i = { p with
      stations := p.stations.set i st
      reports := p.reports.push ⟨p.timeline.t, .station i st.state st.outcome⟩ } := by
  rw [Play.reportStation, Play.station_setStation]
  rfl

variable {f : LoadFields}

theorem ownLoadStation_unknown (h : 3 < f.station.toNat) : ownLoadStation f s = (.refuse .badArg, s) := by
  simp only [ownLoadStation, stationOf_of_gt h]

theorem ownLoadStation_busy (h : f.station.toNat = i.val)
    (hs : (s.play.station i).state ≠ .idle ∨ s.play.timeline.state ≠ .stopped) :
    ownLoadStation f s = (.refuse .busy, s) := by
  simp only [ownLoadStation, stationOf_of_eq h, if_pos hs]

theorem ownLoadStation_empty (h : f.station.toNat = i.val) (hs : (s.play.station i).state = .idle)
    (ht : s.play.timeline.state = .stopped) (hm : laneField f.mask = 0) : ownLoadStation f s = (.refuse .badArg, s) := by
  simp only [ownLoadStation, stationOf_of_eq h, if_neg (not_or.mpr ⟨not_not.mpr hs, not_not.mpr ht⟩), if_pos hm]

theorem ownLoadStation_ok (h : f.station.toNat = i.val) (hs : (s.play.station i).state = .idle)
    (ht : s.play.timeline.state = .stopped) (hm : laneField f.mask ≠ 0) : ownLoadStation f s =
      (.okClamped ((setting 0 Config.unitsMax f.units.toNat).clamped || (setting 1 Config.lifeMax f.startLife.toNat).clamped)
        [], s.modPlay fun p => (p.setStation i (.load (s.play.station i).judge (laneField f.mask)
          (setting 0 Config.unitsMax f.units.toNat).value (setting 1 Config.lifeMax f.startLife.toNat).value
          (f.flags.getLsbD 1) (f.flags.getLsbD 0))).reportStation i) := by
  simp only [ownLoadStation, stationOf_of_eq h, if_neg (not_or.mpr ⟨not_not.mpr hs, not_not.mpr ht⟩), if_neg hm]

end

/-- Settles O29, by the state the station stands in. -/
theorem clearStationReturnsToIdle : Obligations.ClearStationReturnsToIdle := by
  intro tag b s hr
  refine ⟨fun hb => next_answered hr (ownClearStation_badArg hb), fun i hb => ⟨fun hs => next_answered hr
    (ownClearStation_busy (s := s.counted) hb hs), fun hs => next_answered hr ?_⟩⟩
  rw [ownClearStation_ok (s := s.counted) hb hs, State.modPlay, Play.setStation_reportStation, State.reset_station]
  rfl

/-- The clamped flag of LOAD_STATION (R1). -/
theorem loadClamped_eq (units life : Nat) :
    ((setting 0 Config.unitsMax units).clamped || (setting 1 Config.lifeMax life).clamped)
      = decide (1000000 < units ∨ life = 0 ∨ 1000 < life) := by
  rw [setting_clamped (by decide), setting_clamped (by decide), Bool.eq_iff_iff]
  simp only [Bool.or_eq_true, decide_eq_true_eq]
  unfold Config.unitsMax Config.lifeMax
  omega

/-- Settles O25: the checks of R1 in their order, and the station of R2. -/
theorem loadStationPreparesAnIdleStation : Obligations.LoadStationPreparesAnIdleStation := by
  intro tag f s hr
  refine ⟨fun hb => next_answered hr (ownLoadStation_unknown hb), fun i hb => ⟨fun hs => next_answered hr
      (ownLoadStation_busy (s := s.counted) hb hs), fun hs ht hm => next_answered hr
      (ownLoadStation_empty (s := s.counted) hb hs ht (laneField_eq_zero.mpr hm)), fun hs ht hm => next_answered hr ?_⟩⟩
  rw [ownLoadStation_ok (s := s.counted) hb hs ht (mt laneField_eq_zero.mp hm), State.modPlay,
    Play.setStation_reportStation, loadClamped_eq, setting_value, setting_value, Nat.zero_max, State.reset_station]
  rfl

/-! ### CHART_END -/

theorem Station.takesNotes_eq_false {st : Station} (h : st.state = .idle ∨ st.state = .draining ∨ st.state = .finished
    ∨ st.feed.chartComplete = true) : st.takesNotes = false := by
  unfold Station.takesNotes
  rcases h with h | h | h | h <;> simp [h]

theorem Station.takesNotes_eq_true {st : Station} (h : st.state = .loaded ∨ st.state = .running)
    (hc : st.feed.chartComplete = false) : st.takesNotes = true := by
  unfold Station.takesNotes
  rcases h with h | h <;> simp [h, hc]

/-! ### One station's record put in: leaving play -/

/-- The play blocks with station `i`'s record, the lamps and the report queue replaced: what a settlement changes before the tests
that follow it. -/
def Play.put (p : Play) (i : StationId) (u : Station) (lamps : Four (Nine Lamp)) (q : ReportQueue) : Play :=
  { p with stations := p.stations.set i u, lamps := lamps, reports := q }

/-- Whether station `i`, as it leaves play, is the last one in a timeline that runs (R17). -/
abbrev Play.LastInPlay (p : Play) (i : StationId) : Prop :=
  p.timeline.state = .running ∧ ∀ j, j ≠ i → (p.station j).inPlay = false

/-- The play blocks when station `i` has left play as `u`, its STATION and RESULT reports told: the timeline stops with the last
station in play (R17, R18, R121). -/
def Play.left (p : Play) (i : StationId) (u : Station) (o : SongOutcome) (lamps : Four (Nine Lamp)) (q : ReportQueue) : Play :=
  { p with
    stations := p.stations.set i u
    lamps := lamps
    timeline := if p.LastInPlay i then { p.timeline with state := .stopped, pendingStart := none } else p.timeline
    reports := (q.pushAll [⟨p.timeline.t, .station i .finished (some o)⟩, ⟨p.timeline.t, .result i (u.tally.toRecord o)⟩]
      ).pushAll (if p.LastInPlay i then
        [⟨p.timeline.t, .timeline .stopped p.timeline.t p.timeline.source p.timeline.lock 0⟩] else []) }

section

variable (p : Play) (i : StationId) (u : Station) (lamps : Four (Nine Lamp)) (q : ReportQueue)

@[simp] theorem Play.station_put : (p.put i u lamps q).station i = u := Four.get_set_self _ _ _

theorem Play.station_put_ne {j : StationId} (h : j ≠ i) : (p.put i u lamps q).station j = p.station j :=
  Four.get_set_ne _ _ h

@[simp] theorem Play.time_put : (p.put i u lamps q).time = p.timeline.t := rfl

theorem Play.put_self : p.put i (p.station i) p.lamps p.reports = p := by simp [Play.put, Play.station]

theorem Play.modStation_put (f : Station → Station) : (p.put i u lamps q).modStation i f = p.put i (f u) lamps q := by
  rw [Play.modStation, Play.station_put]
  simp [Play.setStation, Play.put]

/-- The auto-stop after station `i` has left play, in the terms of the other stations (R17, R121). -/
theorem Play.autoStop_put (hu : u.inPlay = false) : (p.put i u lamps q).autoStop = { p with
    stations := p.stations.set i u
    lamps := lamps
    timeline := if p.LastInPlay i then { p.timeline with state := .stopped, pendingStart := none } else p.timeline
    reports := q.pushAll (if p.LastInPlay i then
      [⟨p.timeline.t, .timeline .stopped p.timeline.t p.timeline.source p.timeline.lock 0⟩] else []) } := by
  have hiff : (∀ j, ((p.put i u lamps q).station j).inPlay = false) ↔ ∀ j, j ≠ i → (p.station j).inPlay = false := by
    constructor
    · intro h j hj
      rw [← p.station_put_ne i u lamps q hj]
      exact h j
    · intro h j
      by_cases hj : j = i
      · rw [hj, Play.station_put]; exact hu
      · rw [p.station_put_ne i u lamps q hj]; exact h j hj
  rw [Play.autoStop_eq]
  simp only [hiff]
  by_cases hlast : p.LastInPlay i
  · rw [if_pos (by exact hlast), if_pos hlast, if_pos hlast]
    rfl
  · rw [if_neg (by exact hlast), if_neg hlast, if_neg hlast]
    rfl

theorem Play.finish_put (o : SongOutcome) : (p.put i u lamps q).finish i o = p.put i
    { u with
      state := .finished, outcome := some o, synth := .all .released
      tally := { u.tally with record := some (u.tally.toRecord o) } }
    lamps (q.pushAll [⟨p.timeline.t, .station i .finished (some o)⟩, ⟨p.timeline.t, .result i (u.tally.toRecord o)⟩]) := by
  rw [Play.finish_eq, Play.station_put]
  simp [Play.put]

/-- A station that clears leaves play (R9). -/
theorem Play.clear_put : ((p.put i u lamps q).finish i .cleared).autoStop = p.left i u.afterClearing .cleared lamps q := by
  rw [Play.finish_put, Play.autoStop_put _ _ _ _ _ rfl]
  rfl

/-- A station that fails is discarded and leaves play (R11). -/
theorem Play.fail_put : (p.put i u lamps q).failStation i = p.left i u.afterFailure .failed lamps q := by
  rw [Play.failStation, Play.discardFinish, Play.modStation_put, Play.finish_put, Play.autoStop_put _ _ _ _ _ rfl]
  rfl

theorem Station.clears_iff {st : Station} {t : Int} :
    st.Clears t ↔ st.state = .draining ∧ st.noNotes = true ∧ st.endReached t = true := by
  rw [Station.noNotes_iff, and_assoc]

/-- The finishing test on a record put in (R9). -/
theorem Play.drainTest_put : (p.put i u lamps q).drainTest i =
    if u.Clears p.timeline.t then p.left i u.afterClearing .cleared lamps q else p.put i u lamps q := by
  have htest : (decide (u.state = .draining) && u.noNotes && u.endReached p.timeline.t) = true ↔ u.Clears p.timeline.t := by
    rw [Station.clears_iff, Bool.and_eq_true, Bool.and_eq_true, decide_eq_true_eq, and_assoc]
  unfold Play.drainTest
  simp only [Play.station_put, Play.time_put, htest, Play.clear_put]

end

section

variable {s : State} {b : Byte} {i : StationId} {e : BitVec 32}

theorem ownChartEnd_badArg (h : 3 < b.toNat) : ownChartEnd b e s = (.refuse .badArg, s) := by
  simp only [ownChartEnd, stationOf_of_gt h]

theorem ownChartEnd_busy (h : b.toNat = i.val) (hs : (s.play.station i).takesNotes = false) :
    ownChartEnd b e s = (.refuse .busy, s) := by
  simp only [ownChartEnd, stationOf_of_eq h, hs, Bool.false_eq_true, if_false]

theorem ownChartEnd_ok (h : b.toNat = i.val) (hs : (s.play.station i).takesNotes = true) :
    ownChartEnd b e s = (.ok [], { s with play := s.play.chartEnd i e.toInt }) := by
  simp only [ownChartEnd, stationOf_of_eq h, hs, if_true]
  rfl

end

theorem Play.chartEnd_loaded {p : Play} {i : StationId} (h : (p.station i).state = .loaded) (e : Int) :
    p.chartEnd i e = p.setStation i { p.station i with feed := (p.station i).feed.complete e } := by
  unfold Play.chartEnd Play.modStation
  simp only [h]
  rfl

/-- A RUNNING station drains, with its report, and comes under the finishing test (R6). -/
theorem Play.chartEnd_running {p : Play} {i : StationId} (h : (p.station i).state = .running) (e : Int) :
    p.chartEnd i e = (p.put i { p.station i with feed := (p.station i).feed.complete e, state := .draining } p.lamps
      (p.reports.push ⟨p.timeline.t, .station i .draining (p.station i).outcome⟩)).drainTest i := by
  unfold Play.chartEnd Play.modStation
  simp only [h, beq_self_eq_true, if_true, Play.setStation_reportStation]
  rfl

/-- A station whose chart ends at `e` clears at once when it holds nothing and `e` is reached (R6, R9). -/
theorem Station.drained_clears_iff {st : Station} {e t : Int} :
    Station.Clears { st with feed := st.feed.complete e, state := .draining } t ↔ st.noNotes = true ∧ e ≤ t := by
  rw [Station.clears_iff]
  simp [Station.endReached, Feed.complete, Station.noNotes, Station.noHolds]

/-- Settles O27: a station is left LOADED, drains, or clears at once by the finishing test. -/
theorem chartEndCompletesTheChart : Obligations.ChartEndCompletesTheChart := by
  intro tag b e s hr
  refine ⟨fun hb => next_answered hr (ownChartEnd_badArg hb), fun i hb => ⟨fun hs => next_answered hr
    (ownChartEnd_busy (s := s.counted) hb (Station.takesNotes_eq_false hs)), fun hs hc => next_answered hr ?_,
    fun hs hc hn => next_answered hr ?_, fun hs hc hn he => next_answered hr ?_⟩⟩
  · rw [ownChartEnd_ok (s := s.counted) hb (Station.takesNotes_eq_true (.inl hs) hc), State.play_modLink, Play.chartEnd_loaded hs]
    rfl
  · rw [ownChartEnd_ok (s := s.counted) hb (Station.takesNotes_eq_true (.inr hs) hc), State.play_modLink, Play.chartEnd_running hs,
      Play.drainTest_put, if_neg]
    · rfl
    · rw [Station.drained_clears_iff, not_and_or, Bool.not_eq_true, not_le]
      exact hn
  · rw [ownChartEnd_ok (s := s.counted) hb (Station.takesNotes_eq_true (.inr hs) hc), State.play_modLink, Play.chartEnd_running hs,
      Play.drainTest_put, if_pos (Station.drained_clears_iff.mpr ⟨hn, he⟩)]
    simp only [decide_eq_true_eq]
    rfl

end Sys2Proof.Machine

/-! ## Aborts: ABORT_SONG, STOP_SONG and the service combo (O28, O32, O52) -/

namespace Sys2Proof.Machine

theorem stationSet_eq_nil {b : Byte} : stationSet b = [] ↔ (b &&& 0x0F) = 0 := by revert b; decide

theorem mem_stationSet {b : Byte} {i : StationId} : i ∈ stationSet b ↔ b.getLsbD i.val = true := by
  simp [stationSet, mem_stationIds]

theorem nodup_stationSet (b : Byte) : (stationSet b).Nodup := nodup_stationIds.filter _

/-! ### A station after an abort, by the rows of R13 -/

theorem Station.afterAbort_out {st : Station} (h : st.state = .idle ∨ st.state = .finished) : st.afterAbort = st := by
  rcases h with h | h <;> simp only [Station.afterAbort, h]

theorem Station.afterAbort_clears {st : Station} (h : st.state = .draining) (hn : st.noNotes = true) :
    st.afterAbort = st.afterClearing := by simp only [Station.afterAbort, h, hn, if_true]

theorem Station.afterAbort_discards {st : Station}
    (h : st.state = .loaded ∨ st.state = .running ∨ (st.state = .draining ∧ st.noNotes = false)) :
    st.afterAbort = st.afterDiscard .aborted := by
  rcases h with h | h | ⟨h, hn⟩
  · simp only [Station.afterAbort, h]
  · simp only [Station.afterAbort, h]
  · simp only [Station.afterAbort, h, hn, Bool.false_eq_true, if_false]

/-- The test after an abort changes no lamp and no song time (R121). -/
theorem Play.abortTestByRules_frame (p : Play) :
    p.abortTestByRules.lamps = p.lamps ∧ p.abortTestByRules.timeline.t = p.timeline.t := by
  unfold Play.abortTestByRules
  split <;> exact ⟨rfl, rfl⟩

/-! ### ABORT_SONG -/

theorem ownAbortSong_none {b : Byte} {s : State} (h : stationSet b = []) : ownAbortSong b s = (.refuse .badArg, s) := by
  simp only [ownAbortSong, h]

/-- A named station takes the table of R13, and its code stands in the reply (R12). -/
theorem ownAbortSong_some {b : Byte} {s : State} (h : stationSet b ≠ []) : ownAbortSong b s =
    (.ok ((stationSet b).flatMap fun i => [codeByte i.val, codeByte (s.play.station i).abortCode.code]),
      { s with play := ((stationSet b).foldl Play.abortByRules s.play).abortTestByRules }) := by
  have hcodes := s.play.abortStations_codes (nodup_stationSet b)
  unfold ownAbortSong
  split
  next hnil => exact absurd hnil h
  next =>
    dsimp only
    rw [hcodes, Play.abortStations_eq, Play.abortTests_eq, List.flatMap_map]

/-- Settles O28: the codes and the stations are those of R13's table, taken once for each named station. -/
theorem abortSongHandlesEachNamedStation : Obligations.AbortSongHandlesEachNamedStation := by
  intro tag b s hr
  refine ⟨fun hb => next_answered hr (ownAbortSong_none (stationSet_eq_nil.mpr hb)), fun hb => ?_⟩
  obtain ⟨f, q, hframe⟩ := s.play.abortAll_frame (stationSet b)
  obtain ⟨hlamps, htime⟩ := ((stationSet b).foldl Play.abortByRules s.play).abortTestByRules_frame
  refine ⟨{ s with play := ((stationSet b).foldl Play.abortByRules s.play).abortTestByRules }, next_answered hr ?_,
    fun i => ?_, rfl, by rw [htime, hframe], by rw [hlamps, hframe], rfl⟩
  · rw [ownAbortSong_some (s := s.counted) (mt stationSet_eq_nil.mp hb)]
    refine Prod.ext (congrArg Answer.ok ?_) rfl
    refine List.flatMap_congr fun i _ => ?_
    rw [Station.abortCode, State.play_modLink]
    cases (s.play.station i).state with
    | draining => dsimp only; split <;> rfl
    | idle | loaded | running | finished => rfl
  · have hst : ∀ x, b.getLsbD i.val = true → (s.play.station i).afterAbort = x →
        ((stationSet b).foldl Play.abortByRules s.play).abortTestByRules.station i = x := by
      intro x hx hax
      rw [Play.station_abortTestByRules, Play.station_abortAll _ (nodup_stationSet b),
        if_pos (mem_stationSet.mpr hx), hax]
    refine ⟨fun hn => ?_, fun hb hs => hst _ hb (Station.afterAbort_out hs), fun hb hs hn => ?_, fun hb hs => ?_⟩
    · rw [Play.station_abortTestByRules, Play.station_abortAll _ (nodup_stationSet b), if_neg]
      rw [mem_stationSet, hn]
      exact Bool.false_ne_true
    · rw [hst _ hb (Station.afterAbort_clears hs hn)]
      exact ⟨rfl, rfl, rfl⟩
    · rw [hst _ hb (Station.afterAbort_discards hs)]
      exact ⟨rfl, rfl, rfl, fun lane => Nine.get_all _ _, rfl⟩

/-! ### STOP_SONG -/

theorem ownStopSong_busy {s : State} (h : s.play.timeline.state = .stopped) : ownStopSong s = (.refuse .busy, s) := by
  simp only [ownStopSong, h]

theorem ownStopSong_waiting {s : State} (h : s.play.timeline.state = .starting) :
    ownStopSong s = (.ok [], { s with play := s.play.stoppedByRules }) := by
  simp only [ownStopSong, h, State.modPlay, Play.stopTimeline_eq]

theorem ownStopSong_playing {s : State} (h : s.play.timeline.state = .running) : ownStopSong s = (.ok [], { s with
    play := ((stationIds.filter fun i => (s.play.station i).inPlay).foldl Play.abortByRules s.play).stoppedByRules }) := by
  simp only [ownStopSong, h, State.modPlay, Play.stopTimeline_eq, Play.endPlay, Play.abortStations_eq]

/-- Settles O32, by the timeline's state; in RUNNING the stations in play take the table of R13. -/
theorem stopSongEndsPlay : Obligations.StopSongEndsPlay := by
  intro tag s hr
  refine ⟨fun hs => next_answered hr (ownStopSong_busy (s := s.counted) hs), fun hs => next_answered hr
    (ownStopSong_waiting (s := s.counted) hs), fun hs => ?_⟩
  obtain ⟨f, q, hframe⟩ := s.play.abortAll_frame (stationIds.filter fun i => (s.play.station i).inPlay)
  refine ⟨{ s with play := Play.stoppedByRules ((stationIds.filter fun i => (s.play.station i).inPlay).foldl
      Play.abortByRules s.play) }, next_answered hr (ownStopSong_playing (s := s.counted) hs), ?_, fun i => ?_, rfl, rfl⟩
  · rw [hframe]; rfl
  · have hst : Play.station (Play.stoppedByRules ((stationIds.filter fun i => (s.play.station i).inPlay).foldl
        Play.abortByRules s.play)) i
        = if (s.play.station i).inPlay = true then (s.play.station i).afterAbort else s.play.station i := by
      rw [← Play.stopTimeline_eq, Play.station_stopTimeline, Play.station_abortAll _ (nodup_stationIds.filter _)]
      simp [mem_stationIds]
    refine ⟨fun hd hn => ?_, fun hd => ?_, fun hout => ?_⟩
    · rw [hst, if_pos (Station.inPlay_iff.mpr (.inr hd)), Station.afterAbort_clears hd hn]
    · rw [hst, if_pos (Station.inPlay_iff.mpr (hd.imp_right And.left)), Station.afterAbort_discards (.inr hd)]
    · rw [hst, hout]
      exact if_neg Bool.false_ne_true

/-! ### Occupancy and the service combo -/

theorem Nine.any_eq_false {α : Type} (f : Nine α) (p : α → Bool) : f.any p = false ↔ ∀ j, p (f.get j) = false := by
  simp only [Nine.any, List.any_eq_false, Nine.mem_toList, Bool.not_eq_true]
  exact ⟨fun h j => h _ ⟨j, rfl⟩, by rintro h _ ⟨j, rfl⟩; exact h j⟩

theorem LaneSet.mem_lanes {m : LaneSet} {j : PanelId} : j ∈ LaneSet.lanes m ↔ LaneSet.has m j = true := by
  have hall : ∀ j : PanelId, j ∈ panelIds := by decide
  simp [LaneSet.lanes, hall]

theorem PanelStation.comboHeld_iff {ps : PanelStation} : ps.comboHeld = true
    ↔ ∀ j : PanelId, LaneSet.has ps.comboLanes j = true → (ps.panels.get j).isDown = true := by
  simp [PanelStation.comboHeld, LaneSet.mem_lanes]

/-- A station whose age is reached with no panel down becomes VACANT (R157). -/
theorem occupancyVacant_due {i : StationId} {s : State} (ho : (s.panelStation i).occupied = true)
    (ha : (s.panelStation i).occupancyAge ≠ 0) (hd : ∀ j : PanelId, (s.panel i j).isDown = false)
    (ht : (s.panelStation i).occupancyAge * 1000000 ≤ (s.panelStation i).occupancyTimer + 250) :
    occupancyVacant i s = becomeVacant i s := by
  have hnone : (s.panelStation i).panels.any Panel.isDown = false := (Nine.any_eq_false _ _).mpr hd
  have hdue : (s.panelStation i).vacancyDue = true := by
    simpa [PanelStation.vacancyDue, timerStep, Config.scanPeriod] using ht
  simp [occupancyVacant, PanelStation.agingRuns, ho, ha, hnone, hdue]

/-- A combo held for its time fires (R159). -/
theorem serviceCombo_due {i : StationId} {s : State} (hl : (s.panelStation i).comboLanes ≠ 0)
    (hs : (s.panelStation i).comboSpent = false)
    (hd : ∀ j : PanelId, LaneSet.has (s.panelStation i).comboLanes j = true → (s.panel i j).isDown = true)
    (ht : (s.panelStation i).comboHold * 1000000 ≤ (s.panelStation i).comboTimer + 250) :
    serviceCombo i s = fireCombo i s := by
  have hheld : (s.panelStation i).comboHeld = true := PanelStation.comboHeld_iff.mpr hd
  have hdue : (s.panelStation i).comboDue = true := by
    simpa [PanelStation.comboDue, timerStep, Config.scanPeriod] using ht
  unfold serviceCombo
  exact if_pos ⟨hl, by rw [hs]; rfl, hheld, hdue⟩

/-- The combo fires: SERVICE, SPENT, and with the abort flag the table of R13 and its test (R15, R159). -/
theorem fireCombo_eq (i : StationId) (s : State) : fireCombo i s = { s with
    panels := s.panels.set i { s.panelStation i with comboSpent := true, comboTimer := 0 }
    play := if (s.panelStation i).comboAbort then
        (Play.abortByRules (s.play.report (.service i)) i).abortTestByRules
      else s.play.report (.service i) } := by
  unfold fireCombo
  dsimp only
  split
  next => simp only [State.modPlay, Play.serviceAbort, Play.abortStation_eq, Play.abortTests_eq]; rfl
  next => rfl

/-- Settles O52: a due timer takes its branch, and the combo's abort is that of R13. -/
theorem occupancyEndsAndTheComboFires : Obligations.OccupancyEndsAndTheComboFires := by
  intro i s hlive
  refine ⟨fun ho ha hd ht => ?_, fun hl hs hd ht => ⟨fun hab => ?_, fun hab => ?_⟩⟩
  · change Host.Outcome.next (whenLive (occupancyVacant i) s) = _
    rw [whenLive_live hlive, occupancyVacant_due ho ha hd ht]
    rfl
  · change Host.Outcome.next (whenLive (serviceCombo i) s) = _
    rw [whenLive_live hlive, serviceCombo_due hl hs hd ht, fireCombo_eq, if_neg (by rw [hab]; exact Bool.false_ne_true)]
    rfl
  · have hst : ∀ k, Play.station (Play.abortTestByRules (Play.abortByRules (s.play.report (.service i)) i)) k
        = if k = i then (s.play.station i).afterAbort else s.play.station k := fun k => by
      rw [Play.station_abortTestByRules, Play.station_abortByRules]
      rfl
    refine ⟨{ s with
      panels := s.panels.set i { s.panelStation i with comboSpent := true, comboTimer := 0 }
      play := (Play.abortByRules (s.play.report (.service i)) i).abortTestByRules }, ?_, rfl, rfl, fun k hk => ?_,
      fun hin => ?_, fun hout => ?_⟩
    · change Host.Outcome.next (whenLive (serviceCombo i) s) = _
      rw [whenLive_live hlive, serviceCombo_due hl hs hd ht, fireCombo_eq, if_pos hab]
    · rw [hst, if_neg hk]
    · rw [hst, if_pos rfl]
      rcases (s.play.station i).afterAbort_state with hf | ⟨hidle, -⟩
      · exact hf
      · simp [Station.inPlay, hidle] at hin
    · rw [hst, if_pos rfl, Station.afterAbort_out hout]

end Sys2Proof.Machine

/-! ## Deadlines: settlements by the rules, and the rows that take them (O39 to O43, O46) -/

namespace Sys2Proof.Machine

/-! ### The steps of a settlement on a record put in -/

section

variable (p : Play) (i : StationId) (u : Station) (lamps : Four (Nine Lamp)) (q : ReportQueue)

theorem Play.giveResult_eq (m : LaneSet) (r : Result) : p.giveResult i m r = p.put i
    { p.station i with tally := (p.station i).tally.apply p.scoring r } (p.lampResult i m r).lamps p.reports := rfl

theorem Play.removeRecord_eq (k : Nat) : p.removeRecord i k = p.put i { p.station i with
    feed := { (p.station i).feed with queue := (p.station i).feed.queue.eraseIdx k } } p.lamps p.reports := rfl

theorem Play.giveResult_put (m : LaneSet) (r : Result) : (p.put i u lamps q).giveResult i m r = p.put i
    { u with tally := u.tally.apply p.scoring r } (Play.lampResult { p with lamps := lamps } i m r).lamps q := by
  rw [Play.giveResult, Play.modStation_put]
  rfl

theorem Play.removeRecord_put (k : Nat) : (p.put i u lamps q).removeRecord i k = p.put i
    { u with feed := { u.feed with queue := u.feed.queue.eraseIdx k } } lamps q := Play.modStation_put _ _ _ _ _ _

theorem Play.setHold_put (lane : PanelId) (e : Option HoldEntry) : (p.put i u lamps q).setHold i lane e = p.put i
    { u with holds := u.holds.set lane e } lamps q := Play.modStation_put _ _ _ _ _ _

theorem Play.reportJudge_put (id : BitVec 16) (m : LaneSet) (r : Result) (d : Option Int) :
    (p.put i u lamps q).reportJudge i id m r d = p.put i u lamps (q.push ⟨p.timeline.t,
      .judge i id m (.scored r) u.autoplay p.afterStep u.tally.overUnits u.tally.combo u.tally.life u.tally.score d⟩) := by
  rw [Play.reportJudge, Play.station_put]
  rfl

theorem Play.reportHoldEnd_put (id : BitVec 16) (lane : PanelId) (r : Result) :
    (p.put i u lamps q).reportHoldEnd i id lane r = p.put i u lamps (q.push ⟨p.timeline.t,
      .holdEnd i id lane r u.tally.combo u.tally.life u.tally.score⟩) := by
  rw [Play.reportHoldEnd, Play.station_put]
  rfl

theorem Play.reportMine_put (id : BitVec 16) (lane : PanelId) (r : Result) :
    (p.put i u lamps q).reportMine i id lane r
      = p.put i u lamps (q.push ⟨p.timeline.t, .mine i id lane r u.tally.life⟩) := by
  rw [Play.reportMine, Play.station_put]
  rfl

theorem Play.tailResult_put (id : BitVec 16) (lane : PanelId) (r : Result) :
    (p.put i u lamps q).tailResult i id lane r = p.put i { u with tally := u.tally.apply p.scoring r }
      (Play.lampResult { p with lamps := lamps } i (LaneSet.single lane) r).lamps
      (q.push (p.holdEndByRule i id lane r (u.tally.apply p.scoring r))) := by
  rw [Play.tailResult, Play.giveResult_put, Play.reportHoldEnd_put]
  rfl

theorem Play.failing_put : (p.put i u lamps q).failing i = true ↔ u.Fails := by
  rw [Play.failing_iff, Play.station_put]

/-! ### The tests at a settlement's end -/

/-- The rules' settlement, by its three ends: the station fails, it clears, or it plays on. -/
theorem Play.settlementByRules_eq (told : List Report) : p.settlementByRules i u lamps told =
    if u.Fails then p.left i u.afterFailure .failed lamps (p.reports.pushAll told)
    else if u.Clears p.timeline.t then p.left i u.afterClearing .cleared lamps (p.reports.pushAll told)
    else p.put i u lamps (p.reports.pushAll told) := by
  unfold Play.settlementByRules
  by_cases hf : u.Fails
  · simp only [iff_true_intro hf, true_or, decide_true, Bool.true_and, if_true, decide_eq_true_eq, ReportQueue.pushAll_append]
    rfl
  · by_cases hc : u.Clears p.timeline.t
    · simp only [hf, iff_true_intro hc, or_true, decide_true, Bool.true_and, if_true, if_false, decide_eq_true_eq,
        ReportQueue.pushAll_append]
      rfl
    · simp only [hf, hc, or_self, decide_false, Bool.false_and, Bool.false_eq_true, if_false, List.append_nil]
      cases u.outcome <;> simp only [List.append_nil] <;> rfl

/-- The tests after a tail's settlement are those of the rules. -/
theorem Play.endTests_put (told : List Report) :
    (if (p.put i u lamps (p.reports.pushAll told)).failing i then (p.put i u lamps (p.reports.pushAll told)).failStation i
      else (p.put i u lamps (p.reports.pushAll told)).drainTest i) = p.settlementByRules i u lamps told := by
  simp only [Play.settlementByRules_eq, Play.failing_put, Play.fail_put, Play.drainTest_put]

/-- The feed advice after a record has left, by the rule of R35. -/
theorem Play.feedTest_put (h : ¬ u.Fails) : (p.put i u lamps q).feedTest i (p.station i).feed.free
    = p.put i u lamps (q.pushAll (p.adviceByRule i u)) := by
  have htest : ((p.station i).feed.free < Config.adviceLevel && u.feed.free ≥ Config.adviceLevel
      && (u.state == .loaded || u.state == .running) && !u.feed.chartComplete) = true
      ↔ 96 < (p.station i).feed.queue.length ∧ u.feed.queue.length ≤ 96 ∧ (u.state = .loaded ∨ u.state = .running)
        ∧ u.feed.chartComplete = false ∧ ¬ u.Fails := by
    simp only [Bool.and_eq_true, decide_eq_true_eq, Bool.or_eq_true, beq_iff_eq, Bool.not_eq_true', h, not_false_eq_true,
      and_true, and_assoc]
    unfold Feed.free Config.queueCapacity Config.adviceLevel
    exact and_congr (by omega) (and_congr (by omega) Iff.rfl)
  unfold Play.feedTest Play.adviceByRule Play.reportFeed
  simp only [Play.station_put, htest]
  split <;> rfl

/-- The tests after a record's settlement are those of the rules, the advice among them (R24, R35, R58). -/
theorem Play.closeSettlement_put (told : List Report) :
    (p.put i u lamps (p.reports.pushAll told)).closeSettlement i (p.station i).feed.free
      = p.settlementByRules i u lamps (told ++ p.adviceByRule i u) := by
  rw [Play.settlementByRules_eq, ReportQueue.pushAll_append]
  unfold Play.closeSettlement Play.afterLeaving
  simp only [Play.failing_put]
  by_cases hf : u.Fails
  · have hnone : p.adviceByRule i u = [] := if_neg fun h => h.2.2.2.2 hf
    rw [if_pos hf, if_pos hf, Play.fail_put, hnone]
    rfl
  · rw [if_neg hf, if_neg hf, Play.feedTest_put _ _ _ _ _ hf, Play.drainTest_put]

end

/-! ### Settlements by the rules -/

section

variable (p : Play) (i : StationId)

/-- A TAP's or jump's settlement is that of the rules (R54, R58, R59). -/
theorem Play.settleTap_eq (k : Nat) (n : NoteRecord) (r : Result) (d : Option Int) :
    let w := (p.station i).tally.apply p.scoring r
    let gone : Station := { p.station i with
      tally := w, feed := { (p.station i).feed with queue := (p.station i).feed.queue.eraseIdx k } }
    p.settleTap i k n r d = p.settlementByRules i gone (p.lampResult i n.lanes r).lamps
      ([p.judgeByRule i n r w d] ++ p.adviceByRule i gone) := by
  intro w gone
  rw [Play.settleTap, Play.removeRecord_eq, Play.giveResult_put, Play.reportJudge_put]
  exact Play.closeSettlement_put p i gone _ [p.judgeByRule i n r w d]

/-- A head that closes unjudged gives MISS, and DROPPED unless that fails the station (R60). -/
theorem Play.closeHead_eq (k : Nat) (n : NoteRecord) :
    let st := p.station i
    let u := st.tally.apply p.scoring .miss
    let w := u.apply p.scoring .dropped
    let head := p.judgeByRule i n .miss u none
    let missed : Station := { st with tally := u }
    let gone : Station := { st with tally := w, feed := { st.feed with queue := st.feed.queue.eraseIdx k } }
    let lamps := p.lampResult i n.lanes .miss
    p.closeHead i k n = if missed.Fails then p.settlementByRules i missed lamps.lamps [head]
      else p.settlementByRules i gone (lamps.lampResult i (LaneSet.single n.lane) .dropped).lamps
        ([head, p.holdEndByRule i n.id n.lane .dropped w] ++ p.adviceByRule i gone) := by
  intro st u w head missed gone lamps
  unfold Play.closeHead
  rw [Play.giveResult_eq, Play.reportJudge_put]
  simp only [Play.failing_put]
  by_cases hf : missed.Fails
  · rw [if_pos hf, if_pos hf, Play.fail_put, Play.settlementByRules_eq, if_pos hf]
    rfl
  · rw [if_neg hf, if_neg hf, Play.removeRecord_put, Play.tailResult_put]
    exact Play.closeSettlement_put p i gone _ [head, p.holdEndByRule i n.id n.lane .dropped w]

/-- A mine's close is the settlement of the rules (R63). -/
theorem Play.closeMine_eq (k : Nat) (n : NoteRecord) :
    let r : Result := if n.touched then .mineHit else .mineAvoided
    let u := (p.station i).tally.apply p.scoring r
    let gone : Station := { p.station i with
      tally := u, feed := { (p.station i).feed with queue := (p.station i).feed.queue.eraseIdx k } }
    p.closeMine i k n = p.settlementByRules i gone (p.lampResult i n.lanes r).lamps
      ([⟨p.timeline.t, .mine i n.id n.lane r u.life⟩] ++ p.adviceByRule i gone) := by
  intro r u gone
  change (((p.removeRecord i k).giveResult i n.lanes r).reportMine i n.id n.lane r).closeSettlement i
    (p.station i).feed.free = _
  rw [Play.removeRecord_eq, Play.giveResult_put, Play.reportMine_put]
  exact Play.closeSettlement_put p i gone _ [⟨p.timeline.t, .mine i n.id n.lane r u.life⟩]

/-- A tail's settlement is that of the rules (R85). -/
theorem Play.settleTail_eq {lane : PanelId} {e : HoldEntry} (h : (p.station i).holds.get lane = some e) (r : Result) :
    let u := (p.station i).tally.apply p.scoring r
    p.settleTail i lane r = p.settlementByRules i { p.station i with
        tally := u, holds := (p.station i).holds.set lane none }
      (p.lampResult i (LaneSet.single lane) r).lamps [p.holdEndByRule i e.id lane r u] := by
  intro u
  unfold Play.settleTail
  simp only [h]
  rw [Play.tailResult, Play.giveResult_eq, Play.reportHoldEnd_put, Play.setHold_put]
  exact Play.endTests_put p i _ _ [p.holdEndByRule i e.id lane r u]

end

/-! ### The rows -/

/-- An event that changes nothing changes nothing of a part that is still either. -/
theorem whenLive_of_fixed {f : State → State} {s : State} (h : f s = s) : whenLive f s = s := by
  unfold whenLive
  rw [h, ite_self]

/-- The ten rows of a station's deadlines. -/
def deadlineRows (i : StationId) : List Instr :=
  [.noteClose i, .headClose i, .mineCheck i, .mineClose i, .effectiveEndReached i, .holdDeadlineReached i,
    .syntheticPress i, .syntheticRelease i, .rollPress i, .starvation i]

theorem rowOf_mem (i : StationId) (d : Deadline) : rowOf i d ∈ deadlineRows i := by
  cases d <;> simp [rowOf, deadlineRows]

/-- A row takes the next reached deadline when that deadline is of its kind. -/
theorem deadlineRow_takes {i : StationId} {c : Instr} (h : c ∈ deadlineRows i) :
    ∃ kind : Deadline → Bool, (∀ s, exec c s = .next (whenLive (takeRow i kind) s))
      ∧ ∀ d, kind d = true ↔ rowOf i d = c := by
  simp only [deadlineRows, List.mem_cons, List.not_mem_nil, or_false] at h
  rcases h with rfl | rfl | rfl | rfl | rfl | rfl | rfl | rfl | rfl | rfl <;>
    exact ⟨_, fun _ => rfl, fun d => by cases d <;> simp [rowOf]⟩

/-- The row of the next reached deadline takes it. -/
theorem exec_rowOf {i : StationId} {s : State} {d : Due} (hlive : s.live = true) (h : s.play.nextDue i = some d) :
    exec (rowOf i d.2) s = .next { s with play := s.play.takeDue i (s.downs.get i) d } := by
  obtain ⟨kind, hexec, hkind⟩ := deadlineRow_takes (rowOf_mem i d.2)
  rw [hexec, whenLive_live hlive, takeRow, State.modPlay, Play.takeIf, h]
  simp only [(hkind d.2).mpr rfl, if_true]

/-- A row that is not that of the next reached deadline changes nothing (entries 5, 10). -/
theorem exec_row_not_due {i : StationId} {c : Instr} {s : State} (hc : c ∈ deadlineRows i)
    (h : ∀ d, s.play.nextDue i = some d → rowOf i d.2 ≠ c) : exec c s = .next s := by
  obtain ⟨kind, hexec, hkind⟩ := deadlineRow_takes hc
  have hkeep : s.play.takeIf i (s.downs.get i) kind = s.play := by
    unfold Play.takeIf
    split
    next d hd => exact if_neg fun hk => h d hd ((hkind d.2).mp hk)
    next => rfl
  rw [hexec, whenLive_of_fixed]
  simp only [takeRow, State.modPlay, hkeep]

/-- Moves of one station touch that station alone. -/
theorem State.differOnlyAt_of_moves {i : StationId} {s : State} {q : Play} (h : PlayMoves i s.play q) :
    s.DifferOnlyAt i { s with play := q } :=
  let hs := h.sameBut
  ⟨rfl, hs.others, hs.timeline, hs.scoring, hs.grace, hs.rollGap, hs.afterStep, hs.periodBegun⟩

theorem State.differOnlyAt_whenLive {i : StationId} {s : State} {f : State → State} {q : Play}
    (hf : f s = { s with play := q }) (h : PlayMoves i s.play q) : s.DifferOnlyAt i (whenLive f s) := by
  unfold whenLive
  split
  next => rw [hf]; exact State.differOnlyAt_of_moves h
  next => exact State.differOnlyAt_of_moves (.refl (a := s.play))

/-- Settles O39: the eleven rows make moves of their own station, and a row whose deadline is not the next makes none. -/
theorem deadlineRowsTouchOneStation : Obligations.DeadlineRowsTouchOneStation := by
  refine ⟨fun i s c hc => ?_, fun i s => ⟨fun c hc h => exec_row_not_due hc h, fun h => ?_⟩⟩
  · rcases List.mem_append.mp (show c ∈ deadlineRows i ++ [.songEndReached i] from hc) with hc | hc
    · obtain ⟨kind, hexec, -⟩ := deadlineRow_takes hc
      exact ⟨_, hexec s, State.differOnlyAt_whenLive rfl (s.play.takeIf_moves i _ kind)⟩
    · rw [List.mem_singleton] at hc
      exact ⟨_, by rw [hc]; rfl, State.differOnlyAt_whenLive (f := fun s => s.modPlay fun p => p.drainTest i) rfl
        (s.play.drainTest_moves i)⟩
  · have hkeep : s.play.drainTest i = s.play := by
      rw [← s.play.put_self i, Play.drainTest_put, if_neg]
      rw [Station.clears_iff]
      rintro ⟨hd, hn, he⟩
      unfold Station.endReached at he
      split at he
      next e hsong => exact absurd (of_decide_eq_true he) (not_le.mpr (h e hd hn hsong))
      next => cases he
    change Host.Outcome.next (whenLive (fun s => s.modPlay fun p => p.drainTest i) s) = _
    rw [whenLive_of_fixed]
    simp only [State.modPlay, hkeep]

/-! ### A result, and the row of each settlement -/

theorem comboAfter_eq (r : Result) (n : Nat) : comboAfter r n =
    if r ∈ [Result.crisp, .solid, .fair, .held] then min 65535 (n + 1)
    else if r ∈ [Result.loose, .poor, .miss, .dropped] then 0 else n := by cases r <;> rfl

/-- A result reaches the lamps of its lanes in FLASH that have it in their set (R166). -/
theorem Lamp.takeResult_flash {begun : Bool} {r : Result} {l : Lamp} {v d n : Nat} {set : ResultSet}
    (h : l.mode = .flash v d set n) (hset : set.getLsbD (resultCode r) = true) :
    l.takeResult begun r = { l with mode := .flash v d set (d * 12000 + if begun then 1 else 0) } := by
  simp only [Lamp.takeResult, h, hset, if_true, flashPeriods_eq]

theorem Lamp.takeResult_other {begun : Bool} {r : Result} {l : Lamp}
    (h : ∀ v d set n, l.mode = .flash v d set n → set.getLsbD (resultCode r) = false) : l.takeResult begun r = l := by
  unfold Lamp.takeResult
  split
  next v d set n hm => rw [h v d set n hm]; rfl
  next => rfl

theorem Play.lamp_lampResult (p : Play) (i k : StationId) (m : LaneSet) (r : Result) (j : PanelId) :
    ((p.lampResult i m r).lamps.get k).get j =
      if k = i ∧ LaneSet.has m j = true then ((p.lamps.get k).get j).takeResult p.periodBegun r
      else (p.lamps.get k).get j := by
  have hget : (p.lampResult i m r).lamps.get k = if k = i then (p.lamps.get i).mapIdx fun lane l =>
      if LaneSet.has m lane then l.takeResult p.periodBegun r else l else p.lamps.get k := Four.get_modify _ _ _ _
  rw [hget]
  by_cases hk : k = i
  · simp [hk]
  · simp [hk]

/-- Settles O40: the result's effect on tally and lamps, and the row by the settlement of a TAP. -/
theorem noteCloseSettlesMiss : Obligations.NoteCloseSettlesMiss := by
  refine ⟨fun table r u => ?_, fun p i lanes r => ⟨rfl, fun k j => ⟨fun v d set n hm hk hl hset => ?_, fun h => ?_⟩⟩,
    fun i s v k n hlive hdue hn => ?_⟩
  · intro e m combo
    have hcombo : comboAfter r u.combo = combo := comboAfter_eq r u.combo
    unfold Tally.apply
    rw [hcombo]
    rfl
  · rw [Play.lamp_lampResult, if_pos ⟨hk, hl⟩, Lamp.takeResult_flash hm hset]
  · rw [Play.lamp_lampResult]
    split
    next hkl => exact Lamp.takeResult_other fun v d set n hm => h v d set n hm hkl.1 hkl.2
    next => rfl
  · have hrow := exec_rowOf hlive hdue
    simp only [Play.takeDue, Play.withRecord, hn, Play.settleTap_eq] at hrow
    exact hrow

/-- Settles O41, by the settlement of a head that closes. -/
theorem headCloseGivesMissAndDropped : Obligations.HeadCloseGivesMissAndDropped := by
  intro i s v k n hlive hdue hn
  have hrow := exec_rowOf hlive hdue
  simp only [Play.takeDue, Play.withRecord, hn, Play.closeHead_eq] at hrow
  exact hrow

/-- A record found in the queue and changed stands at its position (R62). -/
theorem modify_eq_set {l : List NoteRecord} {k : Nat} {n : NoteRecord} (h : l[k]? = some n)
    (f : NoteRecord → NoteRecord) : l.modify k f = l.set k (f n) := by
  rw [List.modify_eq_set_getElem?, h]
  rfl

/-- Settles O42: the check marks the record, the close settles it by the mark. -/
theorem minesAreCheckedAndClosed : Obligations.MinesAreCheckedAndClosed := by
  intro i s v k n hlive hn
  refine ⟨fun hdue => ?_, fun hdue => ?_⟩
  · have hdown : (s.downs.get i).get n.lane = (s.panel i n.lane).isDown := by
      rw [State.downs, Four.get_map, PanelStation.downs, Nine.get_map]
      rfl
    have hrow := exec_rowOf hlive hdue
    simp only [Play.takeDue, Play.withRecord, hn, Play.checkMine, Play.updateRecord, Play.modStation, modify_eq_set hn,
      Station.laneDown, hdown] at hrow
    exact hrow
  · have hrow := exec_rowOf hlive hdue
    simp only [Play.takeDue, Play.withRecord, hn, Play.closeMine_eq] at hrow
    exact hrow

/-- Settles O43: both tails by the settlement of R85. -/
theorem tailsAreSettledAtEndAndDeadline : Obligations.TailsAreSettledAtEndAndDeadline := by
  intro i s v lane e held hlive he hdue
  have hrow := exec_rowOf hlive hdue
  cases held with
  | true =>
    simp only [if_true, Play.takeDue, Play.settleTail_eq _ _ he] at hrow
    exact hrow
  | false =>
    simp only [Bool.false_eq_true, if_false, Play.takeDue, Play.settleTail_eq _ _ he] at hrow
    exact hrow

/-- A station that enters starvation tells its feed (R36). -/
theorem Play.starve_eq (p : Play) (i : StationId) : p.starve i = { p with
    stations := p.stations.set i { p.station i with feed := { (p.station i).feed with starved := true } }
    reports := p.reports.push ⟨p.timeline.t,
      .feed i (192 - (p.station i).feed.queue.length) (p.station i).feed.horizon true⟩ } := by
  unfold Play.starve Play.reportFeed
  simp only [Play.station_modStation]
  rfl

/-- Settles O46: starvation by its row, the song's end by the finishing test. -/
theorem starvationAndSongEnd : Obligations.StarvationAndSongEnd := by
  intro i s hlive
  refine ⟨fun v hdue => ?_, fun e hd hn hsong he => ?_⟩
  · have hrow := exec_rowOf hlive hdue
    simp only [Play.takeDue, Play.starve_eq] at hrow
    exact hrow
  · have hend : (s.play.station i).endReached s.play.timeline.t = true := by
      simp only [Station.endReached, hsong, decide_eq_true_eq]
      exact he
    have hleft : s.play.drainTest i
        = s.play.left i (s.play.station i).afterClearing .cleared s.play.lamps s.play.reports := by
      conv_lhs => rw [← s.play.put_self i]
      rw [Play.drainTest_put, if_pos (Station.clears_iff.mpr ⟨hd, hn, hend⟩)]
    refine ⟨{ s with play := s.play.drainTest i }, ?_, ?_, ?_, ?_⟩
    · change Host.Outcome.next (whenLive (fun s => s.modPlay fun p => p.drainTest i) s) = _
      rw [whenLive_live hlive]
      rfl
    · rw [hleft]
      exact Four.get_set_self _ _ _
    · rw [hleft]
      exact ⟨_, rfl⟩
    · intro hrun hothers
      have hlast : s.play.LastInPlay i := ⟨hrun, hothers⟩
      rw [hleft]
      simp only [Play.left, if_pos hlast]

end Sys2Proof.Machine

/-! ## The start of a song, and the source monitor (O30, O31, O37) -/

namespace Sys2Proof.Machine

/-! ### Settlements by rows -/

section

variable {s : State}

/-- Deadlines taken by their rows are deadlines taken (R45; entry 27). -/
theorem State.rowsTaken_eq (hlive : s.live = true) (i : StationId) (n : Nat) :
    s.rowsTaken i n = { s with play := Play.takeDues i (s.downs.get i) n s.play } := by
  induction n generalizing s with
  | zero => rfl
  | succ n ih =>
    unfold State.rowsTaken Play.takeDues
    cases hdue : s.play.nextDue i with
    | none => rfl
    | some d =>
      have hrow : s.runs (rowOf i d.2) = { s with play := s.play.takeDue i (s.downs.get i) d } := by
        rw [State.runs, exec_rowOf hlive hdue]
      simp only [hrow]
      exact ih (s := { s with play := s.play.takeDue i (s.downs.get i) d }) hlive

theorem State.stationSettled_eq (hlive : s.live = true) (i : StationId) :
    s.stationSettled i = { s with play := s.play.settleStation i (s.downs.get i) } := by
  have hend : ∀ u : State, u.live = true → u.runs (.songEndReached i) = { u with play := u.play.drainTest i } := by
    intro u hu
    change whenLive (fun s => s.modPlay fun p => p.drainTest i) u = _
    rw [whenLive_live hu]
    rfl
  unfold State.stationSettled
  rw [State.rowsTaken_eq hlive]
  exact hend { s with play := Play.takeDues i (s.downs.get i) (s.play.dueBound i) s.play } hlive

/-- Stations settled by rows, one after another, are stations settled (R113; entry 9). -/
theorem State.foldSettled_eq (hlive : s.live = true) (is : List StationId) :
    is.foldl (fun u i => if (u.play.station i).inPlay then u.stationSettled i else u) s
      = { s with play := s.play.settleStations s.downs is } := by
  induction is generalizing s with
  | nil => rfl
  | cons i is ih =>
    rw [List.foldl_cons, Play.settleStations]
    split
    next =>
      rw [State.stationSettled_eq hlive]
      exact ih (s := { s with play := s.play.settleStation i (s.downs.get i) }) hlive
    next => exact ih hlive

end

/-! ### The start of a song -/

theorem Play.reportStations_eq (p : Play) (is : List StationId) : p.reportStations is = { p with
    reports := p.reports.pushAll (is.map fun i =>
      ⟨p.timeline.t, .station i (p.station i).state (p.station i).outcome⟩) } := by
  induction is generalizing p with
  | nil => rfl
  | cons i is ih =>
    rw [Play.reportStations, ih]
    rfl

theorem Station.enter_outcome (st : Station) : st.enter.outcome = st.outcome := by
  unfold Station.enter
  split <;> rfl

/-- A song's start tells TIMELINE (started), then the stations that enter (R7, R119). -/
theorem Play.startReports_eq (p : Play) (start : Int) :
    (((p.entered start).reportTimeline .started 0).reportStations p.loadedStations)
      = { p.entered start with reports := p.reports.pushAll (p.startReports start) } := by
  have hst : ∀ i, (p.entered start).station i = (p.station i).enter := fun i => Four.get_map _ _ _
  rw [Play.reportStations_eq]
  unfold Play.reportTimeline Play.startReports
  simp only [Play.station_report, hst, Station.enter_outcome]
  rfl

theorem Panel.isDown_moveStamp (n : Int) (q : Panel) : Panel.isDown { q with state := q.state.moveStamp n } = q.isDown := by
  unfold Panel.isDown PanelState.moveStamp
  cases q.state <;> rfl

theorem downs_movePanels (n : Int) (panels : Four PanelStation) :
    (movePanels n panels).map PanelStation.downs = panels.map PanelStation.downs := by
  refine Four.eq_of_get fun i => Nine.eq_of_get fun j => ?_
  simp only [movePanels, Four.get_map, PanelStation.downs, Nine.get_map, Panel.isDown_moveStamp]

theorem State.panel_movePanels (s : State) (n : Int) (i : StationId) (j : PanelId) :
    ((movePanels n s.panels).get i).panels.get j = { s.panel i j with state := (s.panel i j).state.moveStamp n } := by
  simp only [movePanels, Four.get_map, Nine.get_map]
  rfl

/-- A song starts by the rules of R119: the entry, the moves of the stamps, and the settlements by their rows. -/
theorem startAt_eq {s : State} (hlive : s.live = true) (start : Int) : startAt start s = s.enteredByRules start := by
  have hscan : s.scanner.moveStamp (start - s.play.timeline.t) = { s.scanner with
      scanStamp := if s.scanner.waiting.any id then
          max (-2147483648) (min 2147483647 (s.scanner.scanStamp + (start - s.play.timeline.t)))
        else s.scanner.scanStamp } := by
    unfold Scanner.moveStamp
    split <;> rfl
  have hdowns := downs_movePanels (start - s.play.timeline.t) s.panels
  unfold State.enteredByRules
  dsimp only
  rw [State.foldSettled_eq (by exact hlive)]
  unfold startAt State.moved
  rw [Play.startRunning_eq, Play.startReports_eq]
  change _ = State.mk _ _ _ _ _ (Play.settleStations _ ((movePanels (start - s.play.timeline.t) s.panels).map
    PanelStation.downs) _) _ _ _ _
  rw [hdowns, ← hscan]
  rfl

/-! ### What a song's start leaves -/

section

variable (p : Play) (start : Int) (down : Four (Nine Bool))

/-- The settlements of a song's start are moves of the stations. -/
theorem Play.startRunning_moves : AnyMoves { p.entered start with reports := p.reports.pushAll (p.startReports start) }
    (p.startRunning start down) := by
  rw [Play.startRunning_eq, Play.startReports_eq]
  exact Play.settleStations_moves _ _ _

theorem AnyMoves.tells {p q : Play} (h : AnyMoves p q) : p.Tells q :=
  h.keeps (P := p.Tells) (fun _ _ _ hm hp => hp.trans hm.tells) (.refl p)

/-- Moves keep a timeline, or stop it. -/
theorem AnyMoves.timeline {p q : Play} (h : AnyMoves p q) :
    q.timeline = p.timeline ∨ q.timeline = { p.timeline with state := .stopped, pendingStart := none } := by
  refine h.keeps (P := fun q => q.timeline = p.timeline ∨ q.timeline = { p.timeline with
    state := .stopped, pendingStart := none }) (fun _ r q hm hr => ?_) (.inl rfl)
  rcases hm.timeline with he | ⟨-, he⟩ <;> rcases hr with hr | hr <;> rw [he, hr]
  · exact .inl rfl
  · exact .inr rfl
  · exact .inr rfl
  · exact .inr rfl

/-- Moves keep a station's state, or finish it. -/
theorem AnyMoves.state {p q : Play} (h : AnyMoves p q) (j : StationId) :
    (q.station j).state = (p.station j).state ∨ (q.station j).state = .finished := by
  refine h.keeps (P := fun q => (q.station j).state = (p.station j).state ∨ (q.station j).state = .finished)
    (fun i r q hm hr => ?_) (.inl rfl)
  by_cases hj : j = i
  · subst hj
    exact hm.state.elim (fun he => he ▸ hr) .inr
  · rw [(hm.sameBut.others j hj).1]
    exact hr

theorem Play.settleStations_station_ne {is : List StationId} {j : StationId} (hj : j ∉ is) :
    (p.settleStations down is).station j = p.station j := by
  induction is generalizing p with
  | nil => rfl
  | cons i is ih =>
    rw [List.mem_cons, not_or] at hj
    obtain ⟨hji, hj⟩ := hj
    rw [Play.settleStations, ih _ hj]
    split
    next => exact ((p.settleStation_moves i _).sameBut.others j hji).1
    next => rfl

theorem Play.startRunning_timeline :
    (p.startRunning start down).timeline = (p.entered start).timeline
      ∨ (p.startRunning start down).timeline = { (p.entered start).timeline with state := .stopped, pendingStart := none } :=
  (p.startRunning_moves start down).timeline

/-- A station that was LOADED has entered play, and may have finished (R7). -/
theorem Play.startRunning_loaded {i : StationId} (h : (p.station i).state = .loaded) :
    ((p.startRunning start down).station i).state = .finished ∨ ((p.startRunning start down).station i).state
      = if (p.station i).feed.chartComplete then .draining else .running := by
  have hst : ((p.entered start).station i).state = if (p.station i).feed.chartComplete then .draining else .running := by
    rw [show (p.entered start).station i = (p.station i).enter from Four.get_map _ _ _, Station.enter, if_pos h]
  exact ((p.startRunning_moves start down).state i).elim (fun he => .inr (he.trans hst)) .inl

/-- A station that was not LOADED stands as it was (R7). -/
theorem Play.startRunning_other {i : StationId} (h : (p.station i).state ≠ .loaded) :
    (p.startRunning start down).station i = p.station i := by
  rw [Play.startRunning_eq, Play.startReports_eq, Play.settleStations_station_ne]
  · change (p.entered start).station i = _
    rw [show (p.entered start).station i = (p.station i).enter from Four.get_map _ _ _, Station.enter, if_neg h]
  · simp [Play.loadedStations, h]

theorem Play.startRunning_tells : ∃ rs,
    (p.startRunning start down).reports = (p.reports.pushAll (p.startReports start)).pushAll rs :=
  (p.startRunning_moves start down).tells

theorem Play.startRunning_not_starting : (p.startRunning start down).timeline.state ≠ .starting := by
  rcases p.startRunning_timeline start down with h | h <;> rw [h] <;> exact fun hs => nomatch hs

/-- No station is LOADED after a song's start. -/
theorem Play.startRunning_not_loaded (i : StationId) : ((p.startRunning start down).station i).state ≠ .loaded := by
  by_cases h : (p.station i).state = .loaded
  · rcases p.startRunning_loaded start down h with hs | hs <;> rw [hs]
    · simp
    · split <;> simp
  · rw [p.startRunning_other start down h]
    exact h

/-- The timeline after a song's start runs from the start, or has stopped with the last station in play (R17, R119). -/
theorem startAt_timeline (s : State) (start : Int) :
    (startAt start s).play.timeline = (s.play.entered start).timeline
      ∨ (startAt start s).play.timeline
        = { (s.play.entered start).timeline with state := .stopped, pendingStart := none } :=
  s.play.startRunning_timeline start s.downs

end

/-! ### START_SONG and the first edge -/

theorem ownStartSong_busy {start : BitVec 32} {s : State}
    (h : s.play.timeline.state ≠ .stopped ∨ ∀ i : StationId, (s.play.station i).state ≠ .loaded) :
    ownStartSong start s = (.refuse .busy, s) := by
  have hbusy : s.play.timeline.state ≠ .stopped ∨ (!s.play.anyLoaded) = true :=
    h.imp_right fun hn => by rw [Play.anyLoaded_eq_false.mpr hn]; rfl
  rw [ownStartSong, if_pos hbusy]

/-- START_SONG is taken in STOPPED with a LOADED station (R118). -/
theorem startSong_free {s : State} (h : s.play.timeline.state = .stopped)
    (hl : ∃ i : StationId, (s.play.station i).state = .loaded) :
    ¬ (s.play.timeline.state ≠ .stopped ∨ (!s.play.anyLoaded) = true) := by
  rw [Play.anyLoaded_iff.mpr hl]
  simp [h]

theorem ownStartSong_waits {start : BitVec 32} {s : State} (h : s.play.timeline.state = .stopped)
    (hl : ∃ i : StationId, (s.play.station i).state = .loaded) (hx : s.play.timeline.source = .external) :
    ownStartSong start s = (.ok [], s.modPlay fun p => p.modTimeline fun tl =>
      { tl with state := .starting, pendingStart := some start.toInt }) := by
  simp only [ownStartSong, if_neg (startSong_free h hl), hx]

theorem ownStartSong_starts {start : BitVec 32} {s : State} (h : s.play.timeline.state = .stopped)
    (hl : ∃ i : StationId, (s.play.station i).state = .loaded) (hx : s.play.timeline.source = .holdover) :
    ownStartSong start s = (.ok [], startAt start.toInt s) := by
  simp only [ownStartSong, if_neg (startSong_free h hl), hx]

/-- Settles O30: the refusal, the wait, and the start by R119. -/
theorem startSongWaitsOrStarts : Obligations.StartSongWaitsOrStarts := by
  intro tag start s hr
  refine ⟨fun h => next_answered hr (ownStartSong_busy (s := s.counted) h), fun hs hl => ⟨fun hx => next_answered hr
    (ownStartSong_waits (s := s.counted) hs hl hx), fun hx => ?_⟩⟩
  · refine ⟨startAt start.toInt s, next_answered hr (ownStartSong_starts (s := s.counted) hs hl hx), startAt_eq hr.1 _, ?_, ?_, ?_, ?_,
      s.play.startRunning_not_starting _ _, s.play.startRunning_not_loaded _ _⟩
    all_goals rcases startAt_timeline s start.toInt with h | h <;> rw [h] <;> rfl

theorem startPending_starting {s : State} {start : Int} (hs : s.play.timeline.state = .starting)
    (hp : s.play.timeline.pendingStart = some start) : startPending s = startAt start s := by
  simp only [startPending, hs, hp]

/-- The part after an edge on EXTERNAL has restarted the loss timer and become the last edge (R112, R116). -/
def State.edgeNoted (s : State) : State := s.modPlay fun p => p.modTimeline (Timeline.noteEdge s.localTime)

/-- The first edge of STARTING on EXTERNAL restarts the loss timer and takes the pending start (R112, R119). -/
theorem audclkEdge_starting {s : State} {start : Int} (hx : s.play.timeline.source = .external)
    (hs : s.play.timeline.state = .starting) (hp : s.play.timeline.pendingStart = some start) :
    audclkEdge s = startAt start s.edgeNoted := by
  have hstate : (s.modPlay fun p => p.modTimeline (Timeline.noteEdge s.localTime)).play.timeline.state = .starting := hs
  rw [← startPending_starting (s := s.edgeNoted) hs hp]
  simp only [audclkEdge, hx, hstate, State.edgeNoted]

/-- Settles O31: the first edge restarts the loss timer, and the song starts by R119. -/
theorem firstEdgeStartsTheSong : Obligations.FirstEdgeStartsTheSong := by
  intro s start hlive hx hs hp
  refine ⟨startAt start s.edgeNoted, ?_, ?_, ?_, ?_, ?_, ?_, s.edgeNoted.play.startRunning_not_starting _ _,
    startAt_eq (s := s.edgeNoted) hlive start, s.edgeNoted.play.startRunning_tells start s.downs,
    fun i => ⟨fun hl => s.edgeNoted.play.startRunning_loaded start s.downs hl,
      fun hn => s.edgeNoted.play.startRunning_other start s.downs hn, fun j => s.panel_movePanels _ i j⟩, rfl, rfl, rfl⟩
  · change Host.Outcome.next (whenLive audclkEdge s) = _
    rw [whenLive_live hlive, audclkEdge_starting hx hs hp]
  all_goals rcases startAt_timeline s.edgeNoted start with h | h <;> rw [h] <;> rfl

/-! ### The source monitor -/

theorem wellSpaced_iff {interval rate : Nat} : wellSpaced interval rate = true
    ↔ 9 * 12000000 ≤ 10 * interval * rate ∧ 10 * interval * rate ≤ 11 * 12000000 := by simp [wellSpaced]

/-- The edge run count after an edge that follows another (R116). -/
theorem Timeline.edgeRunAfter_some {tl : Timeline} {before : Nat} (h : tl.lastEdge = some before) (now : Nat) :
    tl.edgeRunAfter now = if 9 * 12000000 ≤ 10 * (now - before) * tl.rate
      ∧ 10 * (now - before) * tl.rate ≤ 11 * 12000000 then tl.edgeRun + 1 else 0 := by
  simp only [Timeline.edgeRunAfter, h, wellSpaced_iff]

theorem Timeline.edgeRunAfter_none {tl : Timeline} (h : tl.lastEdge = none) (now : Nat) : tl.edgeRunAfter now = 0 := by
  simp only [Timeline.edgeRunAfter, h]

theorem audclkEdge_holdover {s : State} (hx : s.play.timeline.source = .holdover) :
    audclkEdge s = { s with play := s.play.holdoverEdge s.localTime } := by simp only [audclkEdge, hx, State.modPlay]

/-- An edge in HOLDOVER that completes its run is the return of the source (R116). -/
theorem audclkEdge_returns {s : State} (hx : s.play.timeline.source = .holdover)
    (hr : s.play.timeline.edgeRunAfter s.localTime ≥ Config.edgeRunGoal) : audclkEdge s = sourceReturn s := by
  rw [audclkEdge_holdover hx, Play.holdoverEdge, if_pos hr, sourceReturn, if_pos ⟨hx, hr⟩]
  rfl

/-- An edge in HOLDOVER that completes no run moves the count and the last edge alone (R116). -/
theorem audclkEdge_counts {s : State} (hx : s.play.timeline.source = .holdover)
    (hr : ¬ s.play.timeline.edgeRunAfter s.localTime ≥ Config.edgeRunGoal) :
    audclkEdge s = { s with play := { s.play with timeline := { s.play.timeline with
      lastEdge := some s.localTime, edgeRun := s.play.timeline.edgeRunAfter s.localTime } } } := by
  rw [audclkEdge_holdover hx, Play.holdoverEdge, if_neg hr]
  rfl

theorem sourceReturn_none {s : State} (hr : ¬ s.play.timeline.edgeRunAfter s.localTime ≥ Config.edgeRunGoal) :
    sourceReturn s = s := by
  rw [sourceReturn, if_neg fun h => hr h.2]

/-- A loss of the source with no start under way changes the source and tells it (R115). -/
theorem lossTimerExpiry_keeps {s : State} (hx : s.play.timeline.source = .external)
    (hs : s.play.timeline.state ≠ .starting) : lossTimerExpiry s = { s with play := s.play.sourceLoss } := by
  rw [lossTimerExpiry, if_pos hx, startPending]
  split
  next h _ => exact absurd h hs
  next => rfl

/-- A loss of the source in STARTING takes the pending start after it (R115, R119). -/
theorem lossTimerExpiry_starts {s : State} {start : Int} (hx : s.play.timeline.source = .external)
    (hs : s.play.timeline.state = .starting) (hp : s.play.timeline.pendingStart = some start) :
    lossTimerExpiry s = startAt start { s with play := s.play.sourceLoss } := by
  rw [lossTimerExpiry, if_pos hx]
  exact startPending_starting (s := s.modPlay Play.sourceLoss) hs hp

/-- A song's start tells TIMELINE (started) first (R119). -/
theorem Play.startRunning_tells_started (p : Play) (start : Int) (down : Four (Nine Bool)) :
    ∃ rs, (p.startRunning start down).reports
      = (p.reports.push ⟨start, .timeline .started start p.timeline.source .free 0⟩).pushAll rs := by
  obtain ⟨rs, h⟩ := p.startRunning_tells start down
  exact ⟨_, by rw [h, ← ReportQueue.pushAll_append]; rfl⟩

/-- Settles O37: the loss in both states of the timeline, the return, and the count between. -/
theorem sourceMonitorFollowsTheClock : Obligations.SourceMonitorFollowsTheClock := by
  refine ⟨fun s hlive => ⟨fun hx hs => ?_, fun start hx hs hp => ?_, fun before hx he hrun h1 h2 => ?_⟩,
    fun s hlive hx hlow => ?_⟩
  · change Host.Outcome.next (whenLive lossTimerExpiry s) = _
    rw [whenLive_live hlive, lossTimerExpiry_keeps hx hs]
    rfl
  · refine ⟨startAt start { s with play := s.play.sourceLoss }, ?_,
      startAt_eq (s := { s with play := s.play.sourceLoss }) hlive start, ?_,
      s.play.sourceLoss.startRunning_not_starting _ _, s.play.sourceLoss.startRunning_tells_started start s.downs,
      fun i => ⟨fun hl => ⟨s.play.sourceLoss.startRunning_not_loaded _ _ i, ?_⟩,
        fun hn => s.play.sourceLoss.startRunning_other start s.downs hn, fun j => s.panel_movePanels _ i j⟩, rfl, rfl, rfl⟩
    · change Host.Outcome.next (whenLive lossTimerExpiry s) = _
      rw [whenLive_live hlive, lossTimerExpiry_starts hx hs hp]
    · rcases startAt_timeline { s with play := s.play.sourceLoss } start with h | h <;> rw [h] <;> rfl
    · change ((s.play.sourceLoss.startRunning start s.downs).station i).state ≠ .idle
      rcases s.play.sourceLoss.startRunning_loaded start s.downs hl with h | h <;> rw [h]
      · simp
      · split <;> simp
  · have hgoal : s.play.timeline.edgeRunAfter s.localTime ≥ Config.edgeRunGoal := by
      rw [Timeline.edgeRunAfter_some he, if_pos ⟨h1, h2⟩, hrun]
      decide
    have hedge : exec .audclkEdge s = exec .sourceReturn s := by
      change Host.Outcome.next (whenLive audclkEdge s) = .next (whenLive sourceReturn s)
      rw [whenLive_live hlive, whenLive_live hlive, audclkEdge_returns hx hgoal]
    refine ⟨?_, hedge⟩
    change Host.Outcome.next (whenLive sourceReturn s) = _
    rw [whenLive_live hlive, sourceReturn, if_pos ⟨hx, hgoal⟩]
    rfl
  · have hrun : s.play.timeline.edgeRunAfter s.localTime = (match s.play.timeline.lastEdge with
        | none => 0
        | some before => if 9 * 12000000 ≤ 10 * (s.localTime - before) * s.play.timeline.rate
            ∧ 10 * (s.localTime - before) * s.play.timeline.rate ≤ 11 * 12000000 then s.play.timeline.edgeRun + 1
          else 0) := by
      cases he : s.play.timeline.lastEdge with
      | none => exact Timeline.edgeRunAfter_none he _
      | some before => exact Timeline.edgeRunAfter_some he _
    have hlt : ¬ s.play.timeline.edgeRunAfter s.localTime ≥ Config.edgeRunGoal := by
      rw [hrun]
      exact not_le.mpr hlow
    refine ⟨?_, ?_⟩
    · change Host.Outcome.next (whenLive audclkEdge s) = _
      have hcounts := audclkEdge_counts hx hlt
      rw [hrun] at hcounts
      rw [whenLive_live hlive]
      exact congrArg Host.Outcome.next hcounts
    · change Host.Outcome.next (whenLive sourceReturn s) = _
      rw [whenLive_live hlive, sourceReturn_none hlt]

end Sys2Proof.Machine

/-! ## The deadlines of a station, and the one taken next (O38) -/

namespace Sys2Proof.Machine

/-! ### The deadlines of one record, entry or lane -/

section

variable {c : JudgeConfig} {k : Nat} {n : NoteRecord} {lane : PanelId} {d : Due}

/-- The first deadline stands no later in place than the second. -/
def Due.PlaceLE (d e : Due) : Prop :=
  d.2.place.1 < e.2.place.1 ∨ (d.2.place.1 = e.2.place.1 ∧ d.2.place.2 ≤ e.2.place.2)

theorem mem_recordDues : d ∈ recordDues c k n ↔
    n.kind = .tap ∧ d = (c.closeAt n.time, .noteClose k)
      ∨ (∃ t, n.kind = .hold t ∨ n.kind = .roll t) ∧ d = (c.closeAt n.time, .headClose k)
      ∨ n.kind = .mine ∧ (n.checkTaken = false ∧ d = (c.effective n.time, .mineCheck k)
        ∨ d = (c.mineCloseAt n.time, .mineClose k)) := by
  unfold recordDues
  cases hk : n.kind with
  | tap => simp
  | hold t => simp
  | roll t => simp
  | mine => cases hc : n.checkTaken <;> simp

theorem mem_pressDues : d ∈ pressDues c k n ↔
    n.kind ≠ .mine ∧ n.pressTaken = false ∧ d = (c.effective n.time, .synthPress k) := by
  unfold pressDues
  by_cases hk : n.kind = .mine
  · simp [hk]
  · cases hp : n.pressTaken <;> simp [hk]

theorem mem_entryDues {e : Option HoldEntry} : d ∈ entryDues lane e ↔
    ∃ h, e = some h ∧ (d = (h.effectiveEnd, .holdEnd lane) ∨ ∃ v, h.deadline = some v ∧ d = (v, .holdDeadline lane)) := by
  cases e with
  | none => simp [entryDues]
  | some h => cases hd : h.deadline <;> simp [entryDues, hd]

theorem HoldEntry.deadline_eq_some {h : HoldEntry} {v : Int} :
    h.deadline = some v ↔ h.state = .letGo v ∨ h.state = .rolling v := by
  unfold HoldEntry.deadline
  cases h.state <;> simp

theorem mem_releaseDues {l : SynthLane} :
    d ∈ releaseDues lane l ↔ ∃ v, l.pendingRelease = some v ∧ d = (v, .synthRelease lane) := by
  cases hp : l.pendingRelease <;> simp [releaseDues, hp]

theorem mem_rollDues {e : Option HoldEntry} :
    d ∈ rollDues lane e ↔ ∃ h, e = some h ∧ ∃ v, h.nextPress = some v ∧ d = (v, .rollPress lane) := by
  cases e with
  | none => simp [rollDues]
  | some h => cases hp : h.nextPress <;> simp [rollDues, hp]

theorem mem_starvationDues {st : Station} {start : Int} : d ∈ st.starvationDues start ↔
    st.state = .running ∧ st.feed.chartComplete = false ∧ st.feed.starved = false
      ∧ ((∃ h, st.feed.horizon = .value h ∧ d = (h, .starvation))
        ∨ st.feed.horizon = .unset ∧ d = (start, .starvation)) := by
  unfold Station.starvationDues
  by_cases hs : st.state = .running <;> cases st.feed.chartComplete <;> cases st.feed.starved <;> simp [hs]
  cases st.feed.horizon <;> simp

end

/-! ### The deadlines of a queue -/

/-- The deadlines of a queue are those of its records, each by its position. -/
theorem mem_duesFrom {f : Nat → NoteRecord → List Due} {k : Nat} {q : List NoteRecord} {d : Due} :
    d ∈ duesFrom f k q ↔ ∃ j n, q[j]? = some n ∧ d ∈ f (k + j) n := by
  induction q generalizing k with
  | nil => simp [duesFrom]
  | cons n ns ih =>
    rw [duesFrom, List.mem_append, ih]
    constructor
    · rintro (h | ⟨j, m, hj, hm⟩)
      · exact ⟨0, n, rfl, h⟩
      · exact ⟨j + 1, m, hj, by rwa [Nat.add_right_comm] at hm⟩
    · rintro ⟨_ | j, m, hj, hm⟩
      · obtain rfl := Option.some.inj hj
        exact .inl hm
      · exact .inr ⟨j, m, hj, by rwa [Nat.add_right_comm]⟩

/-- Deadlines of a queue stand in place order when each record's do, and those of one record before those of the next. -/
theorem duesFrom_pairwise {f : Nat → NoteRecord → List Due} (hone : ∀ k n, (f k n).Pairwise Due.PlaceLE)
    (hnext : ∀ j k n m, j < k → ∀ d ∈ f j n, ∀ e ∈ f k m, d.PlaceLE e) (k : Nat) (q : List NoteRecord) :
    (duesFrom f k q).Pairwise Due.PlaceLE := by
  induction q generalizing k with
  | nil => exact .nil
  | cons n ns ih =>
    refine List.pairwise_append.mpr ⟨hone k n, ih (k + 1), fun d hd e he => ?_⟩
    obtain ⟨j, m, -, hm⟩ := mem_duesFrom.mp he
    exact hnext k (k + 1 + j) n m (by omega) d hd e hm

/-- Deadlines of the lanes stand in place order when each lane's do, and those of one lane before those of the next. -/
theorem flatMap_panelIds_pairwise {f : PanelId → List Due} (hone : ∀ lane, (f lane).Pairwise Due.PlaceLE)
    (hnext : ∀ a b : PanelId, a < b → ∀ d ∈ f a, ∀ e ∈ f b, d.PlaceLE e) :
    (panelIds.flatMap f).Pairwise Due.PlaceLE := by
  have hlanes : panelIds.Pairwise (· < ·) := by decide
  exact List.pairwise_flatMap.mpr ⟨fun lane _ => hone lane, hlanes.imp fun {a b} h => hnext a b h⟩

/-! ### The deadlines of a station, by the rules -/

theorem mem_panelIds (j : PanelId) : j ∈ panelIds := by revert j; decide

theorem Station.mem_synthDues {st : Station} {d : Due} : d ∈ st.synthDues ↔ st.autoplay = true
    ∧ ((∃ lane, d ∈ releaseDues lane (st.synth.get lane)) ∨ (∃ lane, d ∈ rollDues lane (st.holds.get lane))
      ∨ d ∈ duesFrom (pressDues st.judge) 0 st.feed.queue) := by
  unfold Station.synthDues
  by_cases h : st.autoplay = true <;> simp [h, mem_panelIds]

theorem Play.mem_dues {p : Play} {i : StationId} {d : Due} : d ∈ p.dues i ↔ (p.station i).inPlay = true
    ∧ (d ∈ duesFrom (recordDues (p.station i).judge) 0 (p.station i).feed.queue
      ∨ (∃ lane, d ∈ entryDues lane ((p.station i).holds.get lane)) ∨ d ∈ (p.station i).synthDues
      ∨ d ∈ (p.station i).starvationDues p.timeline.startTime) := by
  unfold Play.dues
  by_cases h : (p.station i).inPlay = true <;> simp [h, mem_panelIds]

/-- The deadlines of a station in play are those of the rules, each at its value. -/
theorem Play.mem_dues_iff (p : Play) (i : StationId) (d : Due) :
    d ∈ p.dues i ↔ (p.station i).inPlay = true ∧ p.DueByRules i d := by
  rw [Play.mem_dues, and_congr_right_iff]
  intro _
  simp only [mem_duesFrom, mem_recordDues, mem_entryDues, Station.mem_synthDues, mem_releaseDues, mem_rollDues, mem_pressDues,
    mem_starvationDues, HoldEntry.deadline_eq_some, Nat.zero_add]
  obtain ⟨v, kind⟩ := d
  unfold Play.DueByRules
  -- Each kind of deadline is named by one of the lists alone.
  cases kind <;> simp [JudgeConfig.closeAt, JudgeConfig.mineCloseAt, JudgeConfig.effective, Config.settleMargin]

/-! ### Their order -/

/-- Deadlines whose groups differ stand in place order when the groups do. -/
theorem Due.placeLE_of_lt {d e : Due} {m : Nat} (hd : d.2.place.1 ≤ m) (he : m < e.2.place.1) : d.PlaceLE e :=
  .inl (Nat.lt_of_le_of_lt hd he)

section

variable {c : JudgeConfig} {k : Nat} {n : NoteRecord} {lane : PanelId} {d : Due}

theorem recordDues_place (h : d ∈ recordDues c k n) :
    d.2.place.1 = 0 ∧ 2 * k ≤ d.2.place.2 ∧ d.2.place.2 ≤ 2 * k + 1 := by
  rcases mem_recordDues.mp h with ⟨-, rfl⟩ | ⟨-, rfl⟩ | ⟨-, ⟨-, rfl⟩ | rfl⟩ <;> simp [Deadline.place]

theorem entryDues_place {e : Option HoldEntry} (h : d ∈ entryDues lane e) :
    d.2.place.1 = 1 ∧ 2 * lane.val ≤ d.2.place.2 ∧ d.2.place.2 ≤ 2 * lane.val + 1 := by
  obtain ⟨_, -, rfl | ⟨_, -, rfl⟩⟩ := mem_entryDues.mp h <;> simp [Deadline.place]

theorem releaseDues_place {l : SynthLane} (h : d ∈ releaseDues lane l) : d.2.place = (2, lane.val) := by
  obtain ⟨_, -, rfl⟩ := mem_releaseDues.mp h
  rfl

theorem rollDues_place {e : Option HoldEntry} (h : d ∈ rollDues lane e) : d.2.place = (3, lane.val) := by
  obtain ⟨_, -, _, -, rfl⟩ := mem_rollDues.mp h
  rfl

theorem pressDues_place (h : d ∈ pressDues c k n) : d.2.place = (4, k) := by
  obtain ⟨-, -, rfl⟩ := mem_pressDues.mp h
  rfl

theorem starvationDues_place {st : Station} {start : Int} (h : d ∈ st.starvationDues start) : d.2.place = (5, 0) := by
  obtain ⟨-, -, -, ⟨_, -, rfl⟩ | ⟨-, rfl⟩⟩ := mem_starvationDues.mp h <;> rfl

end

/-- Deadlines that all stand at one place are in place order. -/
theorem pairwise_of_place {l : List Due} {x : Nat × Nat} (h : ∀ d ∈ l, d.2.place = x) : l.Pairwise Due.PlaceLE :=
  List.pairwise_of_forall_mem_list fun d hd e he => .inr (by rw [h d hd, h e he]; exact ⟨rfl, le_rfl⟩)

section

variable (c : JudgeConfig) (q : List NoteRecord) (st : Station) (start : Int)

theorem recordDues_pairwise : (duesFrom (recordDues c) 0 q).Pairwise Due.PlaceLE := by
  refine duesFrom_pairwise (fun k n => ?_) (fun j k n m hjk d hd e he => ?_) 0 q
  · unfold recordDues
    split
    · exact List.pairwise_singleton _ _
    · exact List.pairwise_singleton _ _
    · exact List.pairwise_singleton _ _
    · cases n.checkTaken <;> simp [Due.PlaceLE, Deadline.place]
  · obtain ⟨hd1, -, hd2⟩ := recordDues_place hd
    obtain ⟨he1, he2, -⟩ := recordDues_place he
    exact .inr ⟨hd1.trans he1.symm, by omega⟩

theorem entryDues_pairwise (holds : Nine (Option HoldEntry)) :
    (panelIds.flatMap fun lane => entryDues lane (holds.get lane)).Pairwise Due.PlaceLE := by
  refine flatMap_panelIds_pairwise (fun lane => ?_) (fun a b hab d hd e he => ?_)
  · cases holds.get lane with
    | none => exact .nil
    | some h => cases hd : h.deadline <;> simp [entryDues, hd, Due.PlaceLE, Deadline.place]
  · obtain ⟨hd1, -, hd2⟩ := entryDues_place hd
    obtain ⟨he1, he2, -⟩ := entryDues_place he
    have hlanes : a.val < b.val := hab
    exact .inr ⟨hd1.trans he1.symm, by omega⟩

/-- One deadline for each lane at most, all of one group, stand in place order. -/
theorem laneDues_pairwise {f : PanelId → List Due} {g : Nat} (h : ∀ lane, ∀ d ∈ f lane, d.2.place = (g, lane.val)) :
    (panelIds.flatMap f).Pairwise Due.PlaceLE := by
  refine flatMap_panelIds_pairwise (fun lane => pairwise_of_place (h lane)) (fun a b hab d hd e he => ?_)
  rw [Due.PlaceLE, h a d hd, h b e he]
  exact .inr ⟨rfl, Nat.le_of_lt hab⟩

theorem pressDues_pairwise : (duesFrom (pressDues c) 0 q).Pairwise Due.PlaceLE := by
  refine duesFrom_pairwise (fun k n => pairwise_of_place fun d => pressDues_place)
    (fun j k n m hjk d hd e he => ?_) 0 q
  rw [Due.PlaceLE, pressDues_place hd, pressDues_place he]
  exact .inr ⟨rfl, Nat.le_of_lt hjk⟩

theorem Station.synthDues_pairwise : st.synthDues.Pairwise Due.PlaceLE := by
  have hpress : ∀ e ∈ duesFrom (pressDues st.judge) 0 st.feed.queue, 3 < e.2.place.1 := fun e he => by
    obtain ⟨_, _, -, he⟩ := mem_duesFrom.mp he
    simp [pressDues_place he]
  unfold Station.synthDues
  split
  · refine List.pairwise_append.mpr ⟨List.pairwise_append.mpr ⟨laneDues_pairwise fun _ _ => releaseDues_place,
      laneDues_pairwise fun _ _ => rollDues_place, fun d hd e he => ?_⟩, pressDues_pairwise _ _,
      fun d hd e he => Due.placeLE_of_lt (m := 3) ?_ (hpress e he)⟩
    · obtain ⟨_, -, hd⟩ := List.mem_flatMap.mp hd
      obtain ⟨_, -, he⟩ := List.mem_flatMap.mp he
      exact Due.placeLE_of_lt (m := 2) (by simp [releaseDues_place hd]) (by simp [rollDues_place he])
    · simp only [List.mem_append, List.mem_flatMap] at hd
      rcases hd with ⟨_, -, hd⟩ | ⟨_, -, hd⟩
      · simp [releaseDues_place hd]
      · simp [rollDues_place hd]
  · exact .nil

theorem Station.synthDues_place {d : Due} (h : d ∈ st.synthDues) : 1 < d.2.place.1 ∧ d.2.place.1 ≤ 4 := by
  obtain ⟨-, ⟨_, h⟩ | ⟨_, h⟩ | h⟩ := Station.mem_synthDues.mp h
  · simp [releaseDues_place h]
  · simp [rollDues_place h]
  · obtain ⟨_, _, -, h⟩ := mem_duesFrom.mp h
    simp [pressDues_place h]

end

/-- A station's deadlines are listed in place order (R36, R45, R71, R84). -/
theorem Play.dues_pairwise (p : Play) (i : StationId) : (p.dues i).Pairwise Due.PlaceLE := by
  have hrecords : ∀ d ∈ duesFrom (recordDues (p.station i).judge) 0 (p.station i).feed.queue, d.2.place.1 = 0 :=
    fun d hd => by
      obtain ⟨_, _, -, hd⟩ := mem_duesFrom.mp hd
      exact (recordDues_place hd).1
  have hentries : ∀ d ∈ panelIds.flatMap (fun lane => entryDues lane ((p.station i).holds.get lane)), d.2.place.1 = 1 :=
    fun d hd => by
      obtain ⟨_, -, hd⟩ := List.mem_flatMap.mp hd
      exact (entryDues_place hd).1
  unfold Play.dues
  dsimp only
  split
  · refine List.pairwise_append.mpr ⟨List.pairwise_append.mpr ⟨List.pairwise_append.mpr
      ⟨recordDues_pairwise _ _, entryDues_pairwise _, fun d hd e he => ?_⟩, Station.synthDues_pairwise _,
      fun d hd e he => Due.placeLE_of_lt (m := 1) ?_ (Station.synthDues_place _ he).1⟩,
      pairwise_of_place fun _ => starvationDues_place, fun d hd e he => Due.placeLE_of_lt (m := 4) ?_ ?_⟩
    · exact Due.placeLE_of_lt (m := 0) (hrecords d hd).le (by simp [hentries e he])
    · rcases List.mem_append.mp hd with hd | hd
      · simp [hrecords d hd]
      · simp [hentries d hd]
    · rcases List.mem_append.mp hd with hd | hd
      · rcases List.mem_append.mp hd with hd | hd
        · simp [hrecords d hd]
        · simp [hentries d hd]
      · exact (Station.synthDues_place _ hd).2
    · simp [starvationDues_place he]
  · exact .nil

/-! ### The one taken next -/

theorem earliest_eq_none {l : List Due} : earliest l = none ↔ l = [] := by
  cases l with
  | nil => simp [earliest]
  | cons d ds =>
    unfold earliest
    split
    · simp
    · split <;> simp

/-- Of deadlines in place order, the one chosen is taken no later than any. -/
theorem earliest_noLater {l : List Due} (hl : l.Pairwise Due.PlaceLE) {d : Due} (h : earliest l = some d) :
    d ∈ l ∧ ∀ e ∈ l, d.NoLater e := by
  induction l generalizing d with
  | nil => cases h
  | cons a ds ih =>
    obtain ⟨ha, hds⟩ := List.pairwise_cons.mp hl
    have hself : a.NoLater a := .inr ⟨rfl, .inr ⟨rfl, le_rfl⟩⟩
    unfold earliest at h
    split at h
    next hnone =>
      obtain rfl := Option.some.inj h
      simpa [earliest_eq_none.mp hnone] using hself
    next m hm =>
      obtain ⟨hmem, hlow⟩ := ih hds hm
      split at h
      next hlt =>
        obtain rfl := Option.some.inj h
        exact ⟨.tail _ hmem, List.forall_mem_cons.mpr ⟨.inl hlt, hlow⟩⟩
      next hle =>
        obtain rfl := Option.some.inj h
        refine ⟨.head _, List.forall_mem_cons.mpr ⟨hself, fun e he => ?_⟩⟩
        have hval : a.1 ≤ e.1 := (not_lt.mp hle).trans ((hlow e he).elim le_of_lt fun h => h.1.le)
        exact hval.lt_or_eq.imp id fun heq => ⟨heq, ha e he⟩

/-- Settles O38: the listed deadlines are those of the rules and stand in place order, so the first of the lowest is the one
taken next. -/
theorem lowestReachedDeadlineIsTakenNext : Obligations.LowestReachedDeadlineIsTakenNext := by
  intro p i
  have hreached : ∀ e, e ∈ (p.dues i).filter (fun d => decide (d.1 ≤ p.time)) ↔ e ∈ p.dues i ∧ e.1 ≤ p.time := by simp
  refine ⟨p.mem_dues_iff i, fun d hd => ?_, fun hnone e he => ?_⟩
  · obtain ⟨hmem, hlow⟩ := earliest_noLater ((p.dues_pairwise i).filter _) hd
    obtain ⟨hmem, htime⟩ := (hreached d).mp hmem
    exact ⟨hmem, htime, fun e he het => hlow e ((hreached e).mpr ⟨he, het⟩)⟩
  · by_contra hle
    have hin := (hreached e).mpr ⟨he, not_lt.mp hle⟩
    rw [earliest_eq_none.mp hnone] at hin
    cases hin

end Sys2Proof.Machine

/-! ## A block of notes, and the joining of its notes (O26, O55) -/

namespace Sys2Proof.Machine

/-! ### The order of a block (R28) -/

/-- A note at or after H, where H has a value (R28). -/
def Horizon.allows (h : Horizon) (t : Int) : Bool :=
  match h with
  | .value v => decide (v ≤ t)
  | _ => true

/-- A note that may follow in a queue: at or after the time before it, where there is one, and at or after H (R28). -/
def RawNote.follows (h : Horizon) (before : Option Int) (n : RawNote) : Bool :=
  (before.all fun b => decide (b ≤ n.time)) && h.allows n.time

theorem orderFail_cons (h : Horizon) (before : Option Int) (k : Nat) (n : RawNote) (ns : List RawNote) :
    orderFail h before k (n :: ns)
      = if n.follows h before then orderFail h (some n.time) (k + 1) ns else some k := by
  cases before <;> cases h <;> rfl

theorem RawNote.le_of_follows {h : Horizon} {before : Option Int} {n : RawNote} (hf : n.follows h before = true) :
    ∀ b ∈ before, b ≤ n.time := by
  rintro b rfl
  simpa using (Bool.and_eq_true_iff.mp hf).1

/-- A block in order rises from the time before it. -/
theorem rises_of_orderFail {h : Horizon} {before : Option Int} {k : Nat} {notes : List RawNote}
    (hnone : orderFail h before k notes = none) :
    (notes.map RawNote.time).Pairwise (· ≤ ·) ∧ ∀ b ∈ before, ∀ t ∈ notes.map RawNote.time, b ≤ t := by
  induction notes generalizing before k with
  | nil => simp
  | cons n ns ih =>
    rw [orderFail_cons] at hnone
    split at hnone
    next hf =>
      obtain ⟨hrise, hfirst⟩ := ih hnone
      have hle := hfirst n.time rfl
      refine ⟨List.pairwise_cons.mpr ⟨hle, hrise⟩, fun b hb => List.forall_mem_cons.mpr
        ⟨RawNote.le_of_follows hf b hb, fun t ht => (RawNote.le_of_follows hf b hb).trans (hle t ht)⟩⟩
    next => cases hnone

theorem lastTime_concat (ns : List RawNote) (n : RawNote) : lastTime (ns ++ [n]) = n.time := by simp [lastTime]

/-- No note of a block in order lies after its last note. -/
theorem le_lastTime {notes : List RawNote} (h : (notes.map RawNote.time).Pairwise (· ≤ ·)) :
    ∀ t ∈ notes.map RawNote.time, t ≤ lastTime notes := by
  rcases List.eq_nil_or_concat notes with rfl | ⟨ns, n, rfl⟩
  · simp
  · rw [List.concat_eq_append, List.map_append, List.pairwise_append] at *
    obtain ⟨-, -, hlast⟩ := h
    intro t ht
    rw [lastTime_concat]
    rcases List.mem_append.mp ht with ht | ht
    · exact hlast t ht _ (by simp)
    · simp at ht; exact ht.le

/-- A block that passes the checks rises from the tail time and has room (R28, R29). -/
theorem checkNotes_none {st : Station} {covered : Int} {notes : List RawNote} (h : checkNotes st covered notes = none) :
    orderFail st.feed.horizon st.feed.tailTime 0 notes = none ∧ notes.length ≤ st.feed.free := by
  unfold checkNotes at h
  repeat' split at h
  all_goals simp_all

/-! ### Notes joining a queue (R30, R31) -/

/-- The JUDGE report of a note made VOID on a station as it stands (R31). -/
def voidReport (i : StationId) (st : Station) (t : Int) (n : RawNote) : Report :=
  ⟨t, .judge i n.id n.lanes .void st.autoplay false st.tally.overUnits st.tally.combo st.tally.life st.tally.score none⟩

/-- A void count after `k` more notes are made VOID (R31, R93). -/
def voidsAfter (voids k : Nat) : Nat := if k = 0 then voids else min 65535 (voids + k)

theorem voidsAfter_succ (voids k : Nat) : voidsAfter (satAdd voids 1) k = voidsAfter voids (k + 1) := by
  unfold voidsAfter satAdd Config.countMax
  split <;> simp <;> omega

/-- A station's record after the notes of a block have joined it, those that are VOID counted (R30, R31). -/
def Station.joined (st : Station) (t : Int) (notes : List RawNote) : Station :=
  { st with
    tally := { st.tally with voids := voidsAfter st.tally.voids (voidCount st t notes) }
    feed := { st.feed with queue := st.feed.queue ++ (notes.filter fun n => !n.isVoid st t).map RawNote.record } }

section

variable (p : Play) (i : StationId) (u : Station) (lamps : Four (Nine Lamp)) (q : ReportQueue)

theorem Play.voidNote_put (n : RawNote) : (p.put i u lamps q).voidNote i n = p.put i
    { u with tally := { u.tally with voids := satAdd u.tally.voids 1 } } lamps (q.push (voidReport i u p.timeline.t n)) := by
  unfold Play.voidNote
  simp only [Play.modStation_put, Play.station_put]
  rfl

/-- The notes of a block join one by one: the VOID ones are counted and told in block order, the others queued. -/
theorem Play.joinNotes_put (notes : List RawNote) : Play.joinNotes i notes (p.put i u lamps q)
    = p.put i (u.joined p.timeline.t notes) lamps
      (q.pushAll ((notes.filter (RawNote.isVoid u p.timeline.t)).map (voidReport i u p.timeline.t))) := by
  induction notes generalizing u q with
  | nil => simp [Play.joinNotes, Station.joined, voidCount, voidsAfter, ReportQueue.pushAll]
  | cons n ns ih =>
    rw [Play.joinNotes, Play.station_put, Play.time_put]
    by_cases hv : n.isVoid u p.timeline.t = true
    · rw [if_pos hv, Play.voidNote_put, ih]
      have hsame : RawNote.isVoid { u with tally := { u.tally with voids := satAdd u.tally.voids 1 } } p.timeline.t
        = RawNote.isVoid u p.timeline.t := rfl
      simp only [Station.joined, voidCount, hsame, List.filter_cons, hv, if_true, Bool.not_true, Bool.false_eq_true, if_false,
        List.length_cons, voidsAfter_succ, List.map_cons]
      rfl
    · rw [if_neg hv, Play.modStation_put, ih]
      have hsame : RawNote.isVoid { u with feed := { u.feed with queue := u.feed.queue ++ [n.record] } } p.timeline.t
        = RawNote.isVoid u p.timeline.t := rfl
      simp only [Station.joined, voidCount, hsame, List.filter_cons, hv, Bool.false_eq_true, if_false, Bool.not_false,
        if_true, List.map_cons, List.append_assoc, List.singleton_append]
      rfl

/-- The notes of a block join a station (R30, R31). -/
theorem Play.joinNotes_eq (notes : List RawNote) : Play.joinNotes i notes p
    = p.put i ((p.station i).joined p.timeline.t notes) p.lamps (p.reports.pushAll
      ((notes.filter (RawNote.isVoid (p.station i) p.timeline.t)).map (voidReport i (p.station i) p.timeline.t))) := by
  conv_lhs => rw [← p.put_self i]
  exact p.joinNotes_put i _ _ _ notes

end

end Sys2Proof.Machine

/-! ## Note queues stay lawful (O55) -/

namespace Sys2Proof.Machine

/-! ### The law of a queue, on its times (R22, R23) -/

/-- The times of a queue's records, front first. -/
def Feed.times (f : Feed) : List Int := f.queue.map NoteRecord.time

/-- Times that a queue with this tail time may hold: at most 192, rising, none after the tail time (R22, R23). -/
structure TimesLawful (tail : Option Int) (ts : List Int) : Prop where
  room : ts.length ≤ 192
  rise : ts.Pairwise (· ≤ ·)
  within : ∀ x ∈ ts, ∃ t ∈ tail, x ≤ t

theorem Feed.lawful_iff {f : Feed} : f.Lawful ↔ TimesLawful f.tailTime f.times := by
  have hwithin : f.WithinTail ↔ ∀ x ∈ f.times, ∃ t ∈ f.tailTime, x ≤ t := by
    unfold Feed.WithinTail Feed.times
    cases f.tailTime with
    | some t => simp
    | none => simp [List.eq_nil_iff_forall_not_mem]
  rw [Feed.Lawful, hwithin]
  unfold Feed.times
  constructor
  · rintro ⟨hroom, hrise, hin⟩
    exact ⟨by simpa using hroom, List.pairwise_map.mpr hrise, hin⟩
  · rintro ⟨hroom, hrise, hin⟩
    exact ⟨by simpa using hroom, List.pairwise_map.mp hrise, hin⟩

theorem TimesLawful.sublist {tail : Option Int} {ts us : List Int} (h : TimesLawful tail ts) (hs : us.Sublist ts) :
    TimesLawful tail us :=
  ⟨hs.length_le.trans h.room, h.rise.sublist hs, fun x hx => h.within x (hs.subset hx)⟩

/-- An empty queue is lawful. -/
theorem Feed.lawful_of_empty {f : Feed} (h : f.queue = []) : f.Lawful := by
  rw [Feed.lawful_iff, Feed.times, h]
  exact ⟨by simp, .nil, by simp⟩

/-- Rising times within a lawful queue's tail time and after it join the queue, the last of them its new tail time (R23, R28). -/
theorem TimesLawful.append {tail : Option Int} {ts us : List Int} {last : Int} (h : TimesLawful tail ts)
    (hroom : ts.length + us.length ≤ 192) (hrise : us.Pairwise (· ≤ ·)) (hafter : ∀ b ∈ tail, ∀ u ∈ us, b ≤ u)
    (hlast : ∀ u ∈ us, u ≤ last) (hne : us ≠ []) : TimesLawful (some last) (ts ++ us) := by
  obtain ⟨u, hu⟩ := List.exists_mem_of_ne_nil us hne
  have hbefore : ∀ t ∈ ts, ∀ u ∈ us, t ≤ u := fun t ht u hu => by
    obtain ⟨b, hb, hle⟩ := h.within t ht
    exact hle.trans (hafter b hb u hu)
  refine ⟨by simpa using hroom, List.pairwise_append.mpr ⟨h.rise, hrise, hbefore⟩, fun x hx => ⟨last, rfl, ?_⟩⟩
  rcases List.mem_append.mp hx with hx | hx
  · exact (hbefore x hx u hu).trans (hlast u hu)
  · exact hlast x hx

/-! ### What a settlement makes of a feed -/

/-- What moves of a station make of its feed: records leave or none stand, and the tail time and H are kept; a starved station stays
starved (R10, R22, R36). -/
structure Feed.Shrinks (f g : Feed) : Prop where
  times : g.times.Sublist f.times
  tail : g.tailTime = f.tailTime
  horizon : g.horizon = f.horizon
  starved : f.starved = true → g.starved = true

theorem Feed.Shrinks.refl (f : Feed) : f.Shrinks f := ⟨.refl _, rfl, rfl, id⟩

theorem Feed.Shrinks.trans {f g h : Feed} (hfg : f.Shrinks g) (hgh : g.Shrinks h) : f.Shrinks h :=
  ⟨hgh.times.trans hfg.times, hgh.tail.trans hfg.tail, hgh.horizon.trans hfg.horizon, hgh.starved ∘ hfg.starved⟩

theorem Feed.Shrinks.lawful {f g : Feed} (h : f.Shrinks g) (hf : f.Lawful) : g.Lawful := by
  rw [Feed.lawful_iff] at hf ⊢
  rw [h.tail]
  exact hf.sublist h.times

/-- A queue emptied, all else of the feed kept (R10). -/
theorem Feed.shrinks_emptied (f : Feed) : f.Shrinks { f with queue := [] } := ⟨List.nil_sublist _, rfl, rfl, id⟩

theorem StationMove.feed_shrinks {table : PerResult ScoreRow} {st u : Station} (h : StationMove table st u) :
    st.feed.Shrinks u.feed := by
  cases h with
  | queue q hq =>
    have htimes : ∀ l : List NoteRecord, l.map NoteRecord.time = (l.map NoteRecord.identity).map fun x => x.2.1 :=
      fun l => by rw [List.map_map]; rfl
    exact ⟨by simpa only [Feed.times, htimes] using hq.map _, rfl, rfl, id⟩
  | starve => exact ⟨.refl _, rfl, rfl, fun _ => rfl⟩
  | result | stray | void | hold | unhold | synth | unsynth => exact .refl _

/-- A station that fails is discarded, its feed emptied (R10, R11). -/
theorem Play.feed_failStation (p : Play) (i : StationId) :
    ((p.failStation i).station i).feed = { (p.station i).feed with queue := [] } := by
  rw [Play.failStation, Play.discardFinish_eq, Play.station_autoStop]
  exact congrArg Station.feed (Four.get_set_self _ _ _)

theorem PlayMove.feed_shrinks {i : StationId} {p q : Play} (h : PlayMove i p q) :
    (p.station i).feed.Shrinks (q.station i).feed := by
  cases h with
  | report => exact .refl _
  | lamps => exact .refl _
  | station f hf => rw [Play.station_modStation]; exact hf.feed_shrinks
  | clear => rw [Play.station_autoStop, Play.station_finish]; exact .refl _
  | fail => rw [Play.feed_failStation]; exact Feed.shrinks_emptied _

theorem PlayMoves.feed_shrinks {i : StationId} {p q : Play} (h : PlayMoves i p q) :
    (p.station i).feed.Shrinks (q.station i).feed :=
  h.keeps (P := fun q => (p.station i).feed.Shrinks (q.station i).feed) (fun _ _ hm hp => hp.trans hm.feed_shrinks) (.refl _)

/-! ### The play blocks -/

/-- Every station's note queue is lawful. -/
def Play.QueuesLawful (p : Play) : Prop := ∀ i, (p.station i).feed.Lawful

namespace Play.QueuesLawful

variable {p q : Play} (h : p.QueuesLawful)

include h

/-- What leaves the stations as they were keeps the queues lawful. -/
theorem of_stations (hs : q.stations = p.stations) : q.QueuesLawful := fun i => by
  rw [Play.station, hs]
  exact h i

/-- One station's record changed, its queue lawful. -/
theorem setStation (i : StationId) {u : Station} (hu : u.feed.Lawful) : (p.setStation i u).QueuesLawful := fun j => by
  rw [Play.station, Play.setStation, Four.get_set]
  split <;> [exact hu; exact h j]

theorem report (b : ReportBody) : (p.report b).QueuesLawful := h

theorem modTimeline (f : Timeline → Timeline) : (p.modTimeline f).QueuesLawful := h

theorem moves {i : StationId} (hm : PlayMoves i p q) : q.QueuesLawful := fun j => by
  by_cases hj : j = i
  · subst hj; exact hm.feed_shrinks.lawful (h j)
  · rw [(hm.sameBut.others j hj).1]; exact h j

theorem anyMoves (hm : AnyMoves p q) : q.QueuesLawful := by
  induction hm with
  | refl => exact h
  | tail _ hq ih => obtain ⟨i, hq⟩ := hq; exact ih.moves (.single hq)

theorem settleAll (down : Four (Nine Bool)) : (p.settleAll down).QueuesLawful := h.anyMoves (p.settleAll_moves down)

end Play.QueuesLawful

end Sys2Proof.Machine

/-! ## Every step keeps the note queues lawful (O55) -/

namespace Sys2Proof.Machine

/-! ### Station control and the timeline -/

/-- An abort keeps or empties the queue (R13). -/
theorem Station.feed_afterAbort_lawful {st : Station} (h : st.feed.Lawful) : st.afterAbort.feed.Lawful := by
  have hgone : (st.afterDiscard .aborted).feed.Lawful := Feed.lawful_of_empty rfl
  unfold Station.afterAbort
  cases st.state with
  | idle | finished => exact h
  | loaded | running => exact hgone
  | draining => dsimp only; split <;> [exact h; exact hgone]

/-- A station that enters play keeps its feed (R7). -/
theorem Station.feed_enter (st : Station) : st.enter.feed = st.feed := by
  unfold Station.enter
  split <;> rfl

/-- The play blocks once a block's notes have joined and, on a RUNNING station, the deadlines they have reached are taken (R30,
R64). -/
def Play.blockJoined (p : Play) (i : StationId) (down : Nine Bool) (notes : List RawNote) : Play :=
  let q := p.joinNotes i notes
  if (q.station i).state = .running then Play.takeJoinDues i down (q.dueBound i) q else q

theorem Play.takeBlock_eq (p : Play) (i : StationId) (down : Nine Bool) (covered : Int) (notes : List RawNote) :
    p.takeBlock i down covered notes = (p.blockJoined i down notes).modStation i fun st =>
      { st with feed := st.feed.afterBlock (p.blockJoined i down notes).time (lastTime notes) covered } := rfl

theorem Play.blockJoined_moves (p : Play) (i : StationId) (down : Nine Bool) (notes : List RawNote) :
    PlayMoves i (p.joinNotes i notes) (p.blockJoined i down notes) := by
  unfold Play.blockJoined
  dsimp only
  split <;> [exact Play.takeJoinDues_moves _ i down _; exact .refl]

namespace Play.QueuesLawful

variable {p : Play} (h : p.QueuesLawful)

include h

theorem abortStations (is : List StationId) : (p.abortStations is).1.QueuesLawful := by
  rw [Play.abortStations_eq]
  induction is generalizing p with
  | nil => exact h
  | cons i is ih =>
    refine ih fun j => ?_
    rw [Play.station_abortByRules]
    split <;> [exact Station.feed_afterAbort_lawful (h i); exact h j]

theorem abort (is : List StationId) : (p.abortStations is).1.abortTests.QueuesLawful := fun j => by
  rw [Play.station_abortTests]
  exact h.abortStations is j

theorem stopPlay : p.endPlay.stopTimeline.QueuesLawful := h.abortStations _

/-- A song's start keeps every feed, and settles the stations (R7, R119). -/
theorem startRunning (start : Int) (down : Four (Nine Bool)) : (p.startRunning start down).QueuesLawful := by
  refine Play.QueuesLawful.anyMoves (fun i => ?_) (p.startRunning_moves start down)
  rw [Play.station, Play.entered, Four.get_map, Station.feed_enter]
  exact h i

theorem setLock (lock : Lock) (n : Nat) : (p.setLock lock n).QueuesLawful := by
  unfold Play.setLock
  dsimp only
  split <;> exact h

theorem afterStep (b : Bool) : QueuesLawful { p with afterStep := b } := h

theorem step (target amount : Int) (down : Four (Nine Bool)) : (p.step target amount down).QueuesLawful := by
  unfold Play.step
  dsimp only
  generalize hq : Play.reportTimeline _ .step (clampTime amount) = q
  have hlawful : q.QueuesLawful := hq ▸ h
  split <;> [exact ((hlawful.afterStep true).settleAll down).afterStep false; exact hlawful]

theorem holdoverEdge (now : Nat) : (p.holdoverEdge now).QueuesLawful := by
  unfold Play.holdoverEdge
  split <;> exact h

/-- A chart's end keeps the queue and its tail time (R6, R34). -/
theorem chartEnd (i : StationId) (e : Int) : (p.chartEnd i e).QueuesLawful := by
  have hq : (p.modStation i (Station.completeChart e)).QueuesLawful := h.setStation i (h i)
  unfold Play.chartEnd
  dsimp only
  split <;> [exact (hq.report _).moves (Play.drainTest_moves _ i); exact hq]

theorem configJudge (c : JudgeConfig) (is : List StationId) : (p.configJudge c is).QueuesLawful := by
  induction is generalizing p with
  | nil => exact h
  | cons i is ih => exact ih (h.setStation i (h i))

theorem setLamps (set : LaneSet) (mode : LampMode) (is : List StationId) : (p.setLamps set mode is).QueuesLawful :=
  h.of_stations (p.station_setLamps set mode is).1

/-- A block that passes the checks leaves the queue lawful: its notes rise from the tail time to their last, and what is taken at
joining removes records alone (R22, R23, R28). -/
theorem takeBlock (i : StationId) (down : Nine Bool) {covered : Int} {notes : List RawNote}
    (hc : checkNotes (p.station i) covered notes = none) (hne : notes ≠ []) :
    (p.takeBlock i down covered notes).QueuesLawful := by
  obtain ⟨hins, hroom⟩ := checkNotes_none hc
  obtain ⟨hrise, hafter⟩ := rises_of_orderFail hins
  have hmoves := p.blockJoined_moves i down notes
  have hjoin := p.joinNotes_eq i notes
  generalize Play.joinNotes i notes p = q at hjoin hmoves
  have hold := Feed.lawful_iff.mp (h i)
  have hlength : (p.station i).feed.times.length + (notes.map RawNote.time).length ≤ 192 := by
    have := hold.room
    unfold Feed.free Config.queueCapacity at hroom
    simp only [Feed.times, List.length_map] at this ⊢
    omega
  have hjoined : TimesLawful (some (lastTime notes)) (q.station i).feed.times := by
    refine (hold.append hlength hrise hafter (le_lastTime hrise) (by simpa using hne)).sublist ?_
    rw [hjoin, Play.station_put, Feed.times, Station.joined, List.map_append, List.map_map]
    exact (List.Sublist.refl _).append (List.filter_sublist.map _)
  intro j
  rw [Play.takeBlock_eq]
  by_cases hj : j = i
  · subst hj
    rw [Play.station_modStation, Feed.lawful_iff]
    exact hjoined.sublist (PlayMoves.feed_shrinks hmoves).times
  · rw [Play.station_modStation_ne _ _ hj, (PlayMoves.sameBut hmoves |>.others j hj).1, hjoin, Play.station_put_ne _ _ _ _ _ hj]
    exact h j

end Play.QueuesLawful

/-- Power-on and pin reset leave every queue empty (R40). -/
theorem Play.reset_queuesLawful (cause : ResetCause) : (Play.reset cause).QueuesLawful := fun i => by
  rw [show (Play.reset cause).station i = .idle .default from Four.get_all _ _]
  exact Feed.lawful_of_empty rfl

theorem Play.resetPlay_queuesLawful (p : Play) : p.resetPlay.QueuesLawful := fun i => by
  rw [show p.resetPlay.station i = .idle (p.station i).judge from Four.get_map _ _ _]
  exact Feed.lawful_of_empty rfl

/-! ### The panel unit and a scan: moves of one station -/

section

variable (s : State) (i : StationId) (j : PanelId)

theorem deliverEdge_moves (e : Edge) : PlayMoves i s.play (deliverEdge i j e s).play := by
  have hreport : ∀ (e : Edge) (s : State), PlayMoves i s.play (reportEdge i j e s).play := by
    intro e s
    unfold reportEdge
    split <;> [cases e <;> exact s.play.report_moves i _; exact .refl]
  have hoccupy : ∀ (e : Edge) (s : State), PlayMoves i s.play (occupyEdge i e s).play := by
    intro e s
    cases e with
    | press =>
      unfold occupyEdge arrive
      dsimp only
      split <;> [exact Play.report_moves _ i _; exact .refl]
    | release => exact .refl
  have hjudge : ∀ (e : Edge) (s : State), PlayMoves i s.play (judgeEdge i j e s).play := by
    intro e s
    cases e with
    | press => exact s.play.offerPress_moves i j _ false _
    | release => exact s.play.offerRelease_moves i j _ false
  exact ((hreport _ _).trans (hjudge _ _)).trans (hoccupy _ _)

theorem deliver_moves (e : Option Edge) : PlayMoves i s.play (deliver i j e s).play := by
  cases e with
  | none => exact .refl
  | some e => exact deliverEdge_moves s i j e

theorem becomeStuck_moves (stamp : Int) : PlayMoves i s.play (becomeStuck i j stamp s).play :=
  (s.play.report_moves i (.fault i j.val .panelStuck)).trans (deliverEdge_moves ((s.setPanel i j _).report _) i j _)

theorem becomeDead_moves (stamp : Int) : PlayMoves i s.play (becomeDead i j stamp s).play :=
  (s.play.report_moves i (.fault i j.val .panelDead)).trans (deliver_moves ((s.setPanel i j _).report _) i j _)

theorem advanceStuck_moves (stamp : Int) (entered : Bool) :
    PlayMoves i s.play (advanceStuck i j stamp entered s).play := by
  unfold advanceStuck
  dsimp only
  split
  next => split <;> [exact becomeStuck_moves s i j stamp; exact .refl]
  next => exact .refl

theorem takeLoad_moves (stamp : Int) (load : Nat) : PlayMoves i s.play (takeLoad i j stamp load s).play :=
  (deliver_moves (s.setPanel i j _) i j _).trans (advanceStuck_moves _ i j stamp _)

theorem play_recoverPanel : (recoverPanel i j s).play = s.play := by
  unfold recoverPanel
  dsimp only
  split <;> rfl

theorem takePanel_moves (stamp : Int) (scan : PanelScan) : PlayMoves i s.play (takePanel i j stamp scan s).play := by
  have hload : PlayMoves i s.play (if scan.healthy = 0 then
      if (s.panel i j).state = .dead then s else becomeDead i j stamp s
    else takeLoad i j stamp scan.load s).play := by
    split
    next => split <;> [exact .refl; exact becomeDead_moves s i j stamp]
    next => exact takeLoad_moves s i j stamp _
  unfold takePanel
  dsimp only
  split <;> [exact (play_recoverPanel _ i j).symm ▸ hload; exact hload]

theorem takePanels_moves (stamp : Int) (scans : Nine PanelScan) (js : List PanelId) :
    PlayMoves i s.play (takePanels i stamp scans js s).play := by
  induction js generalizing s with
  | nil => exact .refl
  | cons j js ih => exact (takePanel_moves s i j stamp _).trans (ih _)

theorem advanceOccupancy_moves : PlayMoves i s.play (advanceOccupancy i s).play := by
  unfold advanceOccupancy
  dsimp only
  split
  next => split <;> [exact s.play.report_moves i _; exact .refl]
  next => exact .refl

theorem reportFaults_moves (es : List (Nat × FaultEvent)) : PlayMoves i s.play (reportFaults i es s).play := by
  induction es generalizing s with
  | nil => exact .refl
  | cons e es ih => exact (s.play.report_moves i _).trans (ih (s.report _))

theorem pressConfirm_moves : PlayMoves i s.play (pressConfirm i j s).play := by
  unfold pressConfirm
  dsimp only
  split
  next => split <;> [exact deliver_moves (s.setPanel i j _) i j _; exact .refl]
  next => split <;> [exact deliver_moves (s.setPanel i j _) i j _; exact .refl]
  next => exact .refl

theorem releaseConfirm_moves : PlayMoves i s.play (releaseConfirm i j s).play := by
  unfold releaseConfirm
  dsimp only
  split
  next => split <;> [exact deliver_moves (s.setPanel i j _) i j _; exact .refl]
  next => split <;> [exact deliver_moves (s.setPanel i j _) i j _; exact .refl]
  next => exact .refl

theorem panelStuck_moves : PlayMoves i s.play (panelStuck i j s).play := by
  unfold panelStuck
  split <;> [exact becomeStuck_moves s i j _; exact .refl]

end

/-! ### What a wrapper keeps of the play blocks, its work keeps -/

section

variable {P : Play → Prop}

theorem whenLive_keeps {f : State → State} (hf : ∀ s, P s.play → P (f s).play) {s : State} (h : P s.play) :
    P (whenLive f s).play := by
  unfold whenLive
  split <;> [exact hf s h; exact h]

theorem serve_keeps {kind tag : Byte} {owner : Owner} (ho : ∀ s, P s.play → P (owner s).2.play) {s : State}
    (h : P s.play) : P (serve kind tag owner s).play := by
  unfold serve
  dsimp only
  split <;> [exact h; exact ho s.counted h]

theorem request_keeps {kind tag : Byte} {owner : Owner} (ho : ∀ s, P s.play → P (owner s).2.play) {s : State}
    (h : P s.play) : P (whenLive (serve kind tag owner) s).play := whenLive_keeps (fun _ => serve_keeps ho) h

theorem onMicro_keeps {f : State → State} (hf : ∀ s, P s.play → P (f s).play) {s : State} (h : P s.play) :
    P (onMicro f s).play := by
  unfold onMicro
  split <;> [exact hf s h; exact h]

end

/-! ### What leaves the stations' records alone -/

section

variable (s : State)

theorem stations_chooseFrame : (chooseFrame s).play.stations = s.play.stations := by
  unfold chooseFrame
  split
  next => rfl
  next => split <;> rfl
  next => rfl
  next => rfl

theorem stations_txFrameBegin : (txFrameBegin s).play.stations = s.play.stations := by
  unfold txFrameBegin
  split <;> [exact stations_chooseFrame s; rfl]

theorem stations_txFrameEnd : (txFrameEnd s).play.stations = s.play.stations := by
  unfold txFrameEnd
  split <;> [rfl; exact stations_chooseFrame _]

theorem stations_beginMicro : (beginMicro s).play.stations = s.play.stations := by
  unfold beginMicro latchIfDue pwmIfDue scanIfDue
  split <;> split <;> split <;> rfl

theorem stations_sourceReturn : (sourceReturn s).play.stations = s.play.stations := by
  unfold sourceReturn
  split <;> rfl

theorem stations_sendTick : (sendTick s).play.stations = s.play.stations := by
  unfold sendTick
  split
  next => rfl
  next => split <;> [exact stations_txFrameEnd s; rfl]

theorem stations_ownConfigTiming (rate tolerance : BitVec 32) :
    (ownConfigTiming rate tolerance s).2.play.stations = s.play.stations := by
  unfold ownConfigTiming
  dsimp only
  split
  next => rfl
  next => split <;> rfl

theorem stations_ownConfigHolds (grace rollGap : BitVec 32) :
    (ownConfigHolds grace rollGap s).2.play.stations = s.play.stations := by
  unfold ownConfigHolds
  split <;> rfl

theorem stations_ownConfigScoring (rows : PerResult ScoreField) :
    (ownConfigScoring rows s).2.play.stations = s.play.stations := by
  unfold ownConfigScoring
  split <;> rfl

theorem stations_ownSetLamps (f : LampFields) : (ownSetLamps f s).2.play.stations = s.play.stations := by
  unfold ownSetLamps
  split <;> [exact (s.play.station_setLamps _ _ _).1; rfl]

end

/-! ### The rows that reach a note queue -/

section

variable {s : State} (h : s.play.QueuesLawful)

include h

theorem startPending_queuesLawful : (startPending s).play.QueuesLawful := by
  unfold startPending
  split <;> [exact h.startRunning _ _; exact h]

theorem advanced_queuesLawful (f : Timeline → Timeline) : (s.advanced f).play.QueuesLawful := (h.modTimeline f).settleAll _

theorem audclkEdge_queuesLawful : (audclkEdge s).play.QueuesLawful := by
  unfold audclkEdge
  split
  next => exact h.holdoverEdge _
  next =>
    dsimp only
    split
    next => exact h
    next => exact startPending_queuesLawful (s := s.edgeNoted) h
    next => exact advanced_queuesLawful (s := s.edgeNoted) h _

theorem holdoverTick_queuesLawful : (holdoverTick s).play.QueuesLawful := by
  unfold holdoverTick
  split <;> [exact advanced_queuesLawful h _; exact h]

theorem lossTimerExpiry_queuesLawful : (lossTimerExpiry s).play.QueuesLawful := by
  unfold lossTimerExpiry
  split <;> [exact startPending_queuesLawful (s := s.modPlay Play.sourceLoss) h; exact h]

theorem fireCombo_queuesLawful (i : StationId) : (fireCombo i s).play.QueuesLawful := by
  unfold fireCombo
  dsimp only
  split <;> [exact (h.report _).abort [i]; exact h]

theorem advanceCombo_queuesLawful (i : StationId) : (advanceCombo i s).play.QueuesLawful := by
  unfold advanceCombo
  dsimp only
  split
  next => exact h
  next =>
    split
    next => split <;> exact h
    next =>
      split
      next => split <;> [exact fireCombo_queuesLawful h i; exact h]
      next => exact h

/-- A scan makes moves of its station, and then takes its combo (R146). -/
theorem completeScan_queuesLawful (i : StationId) (samples : Samples) :
    (completeScan i samples s).play.QueuesLawful := by
  refine advanceCombo_queuesLawful (h.moves (i := i) ?_) i
  exact ((reportFaults_moves (s.modScan i _) i _).trans (takePanels_moves _ i _ _ _)).trans (advanceOccupancy_moves _ i)

theorem scanFreely_queuesLawful (i : StationId) : (scanFreely i s).play.QueuesLawful := by
  unfold scanFreely
  split <;> [exact completeScan_queuesLawful h i _; exact h]

theorem scanRest_queuesLawful : (scanRest s).play.QueuesLawful :=
  scanFreely_queuesLawful (scanFreely_queuesLawful (scanFreely_queuesLawful (scanFreely_queuesLawful h 0) 1) 2) 3

theorem pinResetRelease_queuesLawful : (pinResetRelease s).play.QueuesLawful := by
  unfold pinResetRelease
  split
  next => exact h
  next => split <;> [exact Play.reset_queuesLawful _; exact h]

theorem lossTick_queuesLawful : (lossTick s).play.QueuesLawful := by
  unfold lossTick
  split
  next => exact h
  next => split <;> [exact lossTimerExpiry_queuesLawful h; exact h]

end

/-! ### The requests that reach a note queue -/

/-- The walk of R27's check 1 reads as many records as it is told to. -/
theorem length_walkNotes {n : Nat} {b : List Byte} {notes : List RawNote} (h : walkNotes n b = some notes) :
    notes.length = n := by
  induction n generalizing b notes with
  | zero =>
    cases b with
    | nil => cases h; rfl
    | cons => cases h
  | succ n ih =>
    unfold walkNotes at h
    split at h
    next => cases h
    next =>
      obtain ⟨rest, hrest, rfl⟩ := Option.map_eq_some_iff.mp h
      simp [ih hrest]

section

variable (s : State) (h : s.play.QueuesLawful)

include h

theorem ownConfigJudge_queuesLawful (selector : Byte) (f : JudgeFields) :
    (ownConfigJudge selector f s).2.play.QueuesLawful := by
  unfold ownConfigJudge
  split
  next => exact h
  next =>
    split
    next => exact h
    next => split <;> [exact h; exact h.configJudge _ _]

/-- A loaded station's queue is empty (R2, R40). -/
theorem ownLoadStation_queuesLawful (f : LoadFields) : (ownLoadStation f s).2.play.QueuesLawful := by
  unfold ownLoadStation
  split
  next => exact h
  next i _ =>
    dsimp only
    split
    next => exact h
    next => split <;> [exact h; exact (h.setStation i (Feed.lawful_of_empty rfl)).report _]

theorem ownNoteBlock_queuesLawful (payload : List Byte) : (ownNoteBlock payload s).2.play.QueuesLawful := by
  unfold ownNoteBlock
  dsimp only
  split
  next => exact h
  next i _ =>
    split
    next => exact h
    next =>
      split
      next => exact h
      next notes hwalk =>
        split
        next => exact h
        next hc =>
          refine h.takeBlock i _ hc fun hnil => ?_
          split at hwalk
          next hcount =>
            have hlen := length_walkNotes hwalk
            rw [hnil, List.length_nil] at hlen
            omega
          next => cases hwalk

theorem admitNoteBlock_queuesLawful (payload : List Byte) : (admitNoteBlock payload s).2.play.QueuesLawful := by
  unfold admitNoteBlock
  split <;> [exact ownNoteBlock_queuesLawful s h payload; exact h]

theorem ownChartEnd_queuesLawful (station : Byte) (e : BitVec 32) : (ownChartEnd station e s).2.play.QueuesLawful := by
  unfold ownChartEnd
  split
  next => exact h
  next i _ => split <;> [exact h.chartEnd i _; exact h]

theorem ownAbortSong_queuesLawful (stations : Byte) : (ownAbortSong stations s).2.play.QueuesLawful := by
  unfold ownAbortSong
  split <;> [exact h; exact h.abort _]

theorem ownClearStation_queuesLawful (station : Byte) : (ownClearStation station s).2.play.QueuesLawful := by
  unfold ownClearStation
  split
  next => exact h
  next i _ =>
    dsimp only
    split <;> [exact (h.setStation i (Feed.lawful_of_empty rfl)).report _; exact h]

theorem ownStartSong_queuesLawful (start : BitVec 32) : (ownStartSong start s).2.play.QueuesLawful := by
  unfold ownStartSong
  split
  next => exact h
  next => split <;> [exact h.modTimeline _; exact h.startRunning _ _]

theorem ownStopSong_queuesLawful : (ownStopSong s).2.play.QueuesLawful := by
  unfold ownStopSong
  split
  next => exact h
  next => exact h
  next => exact h.stopPlay

theorem ownAnchor_queuesLawful (time : BitVec 32) : (ownAnchor time s).2.play.QueuesLawful := by
  unfold ownAnchor
  dsimp only
  split
  next => exact h
  next =>
    split
    next => exact h.setLock _ _
    next => split <;> [exact h.setLock _ _; exact h.step _ _ _]

/-- Every request of the catalogue keeps the note queues lawful. -/
theorem ownerOf_queuesLawful (r : Request) (b : List Byte) : (ownerOf r b s).2.play.QueuesLawful := by
  cases r with
  | configTiming => exact h.of_stations (stations_ownConfigTiming s _ _)
  | configJudge => exact ownConfigJudge_queuesLawful s h _ _
  | configHolds => exact h.of_stations (stations_ownConfigHolds s _ _)
  | configScoring => exact h.of_stations (stations_ownConfigScoring s _)
  | configPanels => exact (play_ownConfigPanels (readPanels b) s).symm ▸ h
  | configCombo => exact (play_ownConfigCombo (readCombo b) s).symm ▸ h
  | setLamps => exact h.of_stations (stations_ownSetLamps s _)
  | loadStation => exact ownLoadStation_queuesLawful s h _
  | noteBlock => exact ownNoteBlock_queuesLawful s h b
  | chartEnd => exact ownChartEnd_queuesLawful s h _ _
  | abortSong => exact ownAbortSong_queuesLawful s h _
  | clearStation => exact ownClearStation_queuesLawful s h _
  | armPresence => exact (play_ownArmPresence (field8 b 0) s).symm ▸ h
  | seedBaseline => exact (play_ownSeedBaseline (field8 b 0) s).symm ▸ h
  | startSong => exact ownStartSong_queuesLawful s h _
  | stopSong => exact ownStopSong_queuesLawful s h
  | anchor => exact ownAnchor_queuesLawful s h _
  | getStatus => exact (ownGetStatus_state (field8 b 0) (field8 b 1) s).symm ▸ h
  | getTally => exact (ownGetTally_state (field8 b 0) s).symm ▸ h
  | getResult => exact (ownGetResult_state (field8 b 0) s).symm ▸ h
  | getSensors => exact (ownGetSensors_state (field8 b 0) s).symm ▸ h
  | configReports | getFaults | getLinkCounts => exact h
  | resetPlay => exact s.play.resetPlay_queuesLawful

theorem frameOwner_queuesLawful (kind : Byte) (b : List Byte) : (frameOwner kind b s).2.play.QueuesLawful := by
  unfold frameOwner
  split
  next => exact h
  next => split <;> [exact ownerOf_queuesLawful s h _ b; exact h]

end

theorem takeFrame_queuesLawful {s : State} (h : s.play.QueuesLawful) (b : List Byte) :
    (takeFrame b s).play.QueuesLawful := by
  unfold takeFrame
  dsimp only
  split <;> [exact serve_keeps (fun s h => frameOwner_queuesLawful s h _ _) h; exact h]

theorem rxByte_queuesLawful {s : State} (h : s.play.QueuesLawful) (b : Byte) : (rxByte b s).play.QueuesLawful := by
  unfold rxByte
  split
  next => split <;> exact h
  next => split <;> exact h
  next =>
    dsimp only
    split <;> [exact takeFrame_queuesLawful (s := s.modLink _) h _; exact h]

/-! ### Every command, and the crystal -/

theorem takeRow_queuesLawful {s : State} (h : s.play.QueuesLawful) (i : StationId) (kind : Deadline → Bool) :
    (whenLive (takeRow i kind) s).play.QueuesLawful :=
  whenLive_keeps (fun s h => h.moves (s.play.takeIf_moves i _ kind)) h

/-- Every command keeps the note queues lawful. -/
theorem runs_queuesLawful (c : Instr) {s : State} (h : s.play.QueuesLawful) : (s.runs c).play.QueuesLawful := by
  cases c with
  | powerOn => exact Play.reset_queuesLawful _
  | pinResetRelease => exact pinResetRelease_queuesLawful h
  | rxByte b => exact whenLive_keeps (fun _ h => rxByte_queuesLawful h b) h
  | gapTimeout => exact whenLive_keeps (fun s h => (play_gapTimeout s).symm ▸ h) h
  | configTiming tag rate tolerance => exact request_keeps (fun s h => h.of_stations (stations_ownConfigTiming s rate tolerance)) h
  | configJudge tag selector f => exact request_keeps (fun s h => ownConfigJudge_queuesLawful s h selector f) h
  | configHolds tag grace rollGap => exact request_keeps (fun s h => h.of_stations (stations_ownConfigHolds s grace rollGap)) h
  | configScoring tag rows => exact request_keeps (fun s h => h.of_stations (stations_ownConfigScoring s rows)) h
  | configPanels tag f => exact request_keeps (fun s h => (play_ownConfigPanels f s).symm ▸ h) h
  | configCombo tag f => exact request_keeps (fun s h => (play_ownConfigCombo f s).symm ▸ h) h
  | configReports tag stations => exact request_keeps (owner := ownConfigReports stations) (fun _ h => h) h
  | setLamps tag f => exact request_keeps (fun s h => h.of_stations (stations_ownSetLamps s f)) h
  | loadStation tag f => exact request_keeps (fun s h => ownLoadStation_queuesLawful s h f) h
  | noteBlock tag payload => exact request_keeps (fun s h => admitNoteBlock_queuesLawful s h payload) h
  | chartEnd tag station e => exact request_keeps (fun s h => ownChartEnd_queuesLawful s h station e) h
  | abortSong tag stations => exact request_keeps (fun s h => ownAbortSong_queuesLawful s h stations) h
  | clearStation tag station => exact request_keeps (fun s h => ownClearStation_queuesLawful s h station) h
  | armPresence tag station => exact request_keeps (fun s h => (play_ownArmPresence station s).symm ▸ h) h
  | seedBaseline tag station => exact request_keeps (fun s h => (play_ownSeedBaseline station s).symm ▸ h) h
  | startSong tag start => exact request_keeps (fun s h => ownStartSong_queuesLawful s h start) h
  | stopSong tag => exact request_keeps (fun s h => ownStopSong_queuesLawful s h) h
  | anchor tag time => exact request_keeps (fun s h => ownAnchor_queuesLawful s h time) h
  | getStatus tag sect station => exact request_keeps (fun s h => (ownGetStatus_state sect station s).symm ▸ h) h
  | getTally tag station => exact request_keeps (fun s h => (ownGetTally_state station s).symm ▸ h) h
  | getResult tag station => exact request_keeps (fun s h => (ownGetResult_state station s).symm ▸ h) h
  | getSensors tag station => exact request_keeps (fun s h => (ownGetSensors_state station s).symm ▸ h) h
  | getFaults tag => exact request_keeps (owner := ownGetFaults) (fun _ h => h) h
  | getLinkCounts tag => exact request_keeps (owner := ownGetLinkCounts) (fun _ h => h) h
  | resetPlay tag => exact request_keeps (owner := ownResetPlay) (fun s _ => s.play.resetPlay_queuesLawful) h
  | txFrameBegin => exact whenLive_keeps (fun s h => h.of_stations (stations_txFrameBegin s)) h
  | txFrameEnd => exact whenLive_keeps (fun s h => h.of_stations (stations_txFrameEnd s)) h
  | audclkEdge => exact whenLive_keeps (fun _ h => audclkEdge_queuesLawful h) h
  | holdoverTick => exact whenLive_keeps (fun _ h => holdoverTick_queuesLawful h) h
  | lossTimerExpiry => exact whenLive_keeps (fun _ h => lossTimerExpiry_queuesLawful h) h
  | sourceReturn => exact whenLive_keeps (fun s h => h.of_stations (stations_sourceReturn s)) h
  | noteClose i | headClose i | mineCheck i | mineClose i | effectiveEndReached i | holdDeadlineReached i
  | syntheticPress i | syntheticRelease i | rollPress i | starvation i => exact takeRow_queuesLawful h i _
  | songEndReached i =>
    exact whenLive_keeps (f := fun s => s.modPlay fun p => p.drainTest i) (fun s h => h.moves (s.play.drainTest_moves i)) h
  | scanComplete i samples =>
    refine whenLive_keeps (fun s h => ?_) h
    unfold scanComplete
    split <;> [exact completeScan_queuesLawful h i samples; exact h]
  | baselineLearn =>
    refine whenLive_keeps (fun s h => ?_) h
    unfold baselineLearn
    split <;> [exact scanRest_queuesLawful h; exact h]
  | channelBlockEnd =>
    refine whenLive_keeps (fun s h => ?_) h
    unfold channelBlockEnd
    split <;> [exact scanRest_queuesLawful h; exact h]
  | pressConfirm i j => exact whenLive_keeps (fun s h => h.moves (pressConfirm_moves s i j)) h
  | releaseConfirm i j => exact whenLive_keeps (fun s h => h.moves (releaseConfirm_moves s i j)) h
  | stuckExit i j => exact whenLive_keeps (fun s h => (play_stuckExit s i j).symm ▸ h) h
  | panelStuck i j => exact whenLive_keeps (fun s h => h.moves (panelStuck_moves s i j)) h
  | occupancyVacant i =>
    refine whenLive_keeps (fun s h => ?_) h
    unfold occupancyVacant
    split <;> [exact h.report _; exact h]
  | serviceCombo i =>
    refine whenLive_keeps (fun s h => ?_) h
    unfold serviceCombo
    dsimp only
    split <;> [exact fireCombo_queuesLawful h i; exact h]
  | scanStart => exact whenLive_keeps (f := scanStart) (fun _ h => h) h
  | flashEnd i j => exact whenLive_keeps (f := flashEnd i j) (fun _ h => h) h
  | pwmPeriodStart => exact whenLive_keeps (f := pwmPeriodStart) (fun _ h => h) h
  | lampChainLatch => exact whenLive_keeps (f := lampChainLatch) (fun _ h => h) h
  | pinResetAssert | powerLoss => exact h

theorem crystalPeriod_queuesLawful {s : State} (h : s.play.QueuesLawful) : (crystalPeriod s).play.QueuesLawful := by
  have hbegin := h.of_stations (stations_txFrameBegin s)
  have hmicro := onMicro_keeps (fun s h => h.of_stations (stations_beginMicro s)) hbegin
  have hperiod := hmicro.of_stations (q := (onMicro beginMicro (txFrameBegin s)).nextPeriod.play) rfl
  have hend := onMicro_keeps (f := endMicro) (fun _ h => holdoverTick_queuesLawful h) hperiod
  unfold crystalPeriod
  refine Play.QueuesLawful.of_stations ?_ (stations_sendTick _)
  rw [play_gapTick]
  exact lossTick_queuesLawful hend

/-- Settles O55: a settlement removes records alone, a block joins in order within the free count, and what else reaches a queue
empties it. -/
theorem everyStepKeepsTheNoteQueuesLawful : Obligations.EveryStepKeepsTheNoteQueuesLawful := by
  intro s t h hstep
  unfold step at hstep
  split at hstep
  next =>
    obtain rfl := Host.Outcome.next.inj hstep
    exact whenLive_keeps (P := Play.QueuesLawful) (fun _ => crystalPeriod_queuesLawful) h
  next c rest _ =>
    rw [exec_eq_runs] at hstep
    obtain rfl := Host.Outcome.next.inj hstep
    exact runs_queuesLawful c (s := { s with pending := rest }) h

end Sys2Proof.Machine

/-! ## NOTE_BLOCK: its bytes, its refusals in order, and the block taken (O26) -/

namespace Sys2Proof.Machine

/-! ### Numbers on the line -/

@[simp] theorem length_leBytes (size n : Nat) : (leBytes size n).length = size := by
  induction size generalizing n with
  | zero => rfl
  | succ k ih => simp [leBytes, ih]

@[simp] theorem length_leInt (size : Nat) (t : Int) : (leInt size t).length = size := length_leBytes _ _

@[simp] theorem length_bvBytes (size : Nat) {w : Nat} (v : BitVec w) : (bvBytes size v).length = size := length_leBytes _ _

/-- Bytes of a number read back as its low part. -/
theorem leNat_leBytes (size n : Nat) : leNat (leBytes size n) = n % 256 ^ size := by
  induction size generalizing n with
  | zero => simp [leBytes, leNat, Nat.mod_one]
  | succ k ih =>
    rw [pow_succ', Nat.mod_mul]
    simp [leBytes, leNat, ih]

/-- A song time read back from its four bytes. -/
theorem toInt_leInt {t : Int} (h : InTimeRange t) : (BitVec.ofNat 32 (leNat (leInt 4 t))).toInt = t := by
  obtain ⟨hlo, hhi⟩ := h
  rw [leInt, leNat_leBytes, BitVec.toInt_ofNat']
  simp [Int.bmod]
  omega

theorem ofNat_bvBytes (v : BitVec 16) : BitVec.ofNat 16 (leNat (bvBytes 2 v)) = v := by
  rw [bvBytes, leNat_leBytes, show 256 ^ 2 = 2 ^ 16 from rfl, Nat.mod_eq_of_lt v.isLt, BitVec.ofNat_toNat, BitVec.setWidth_eq]

/-- The lane set of a lane field, whose upper bits are ignored (R27). -/
theorem laneField_append (upper : BitVec 7) (lanes : LaneSet) : laneField (upper ++ lanes) = lanes := by
  rw [laneField, BitVec.setWidth_append, dif_pos le_rfl, BitVec.setWidth_eq]

theorem leNat_codeByte {n : Nat} (h : n ≤ 255) : leNat [codeByte n] = n := by
  simp [leNat, codeByte]
  omega

/-! ### Fields of a payload -/

section

variable {xs ys : List Byte} {a size : Nat}

/-- The field at the front of the bytes. -/
theorem field_front (ha : a = 0) (h : xs.length = size) : field (xs ++ ys) a size = leNat xs := by
  rw [field, ha, List.drop_zero, List.take_left' h]

/-- A field behind the bytes at the front. -/
theorem field_behind (h : xs.length ≤ a) : field (xs ++ ys) a size = field ys (a - xs.length) size := by
  rw [field, List.drop_append, List.drop_eq_nil_of_le h, List.nil_append, field]

/-- A field within the bytes at the front. -/
theorem field_within (h : a + size ≤ xs.length) : field (xs ++ ys) a size = field xs a size := by
  rw [field, List.drop_append_of_le_length (by omega), List.take_append_of_le_length (by simp; omega), field]

end

/-! ### One note record (R181) -/

/-- A note's values fit their fields on the line. -/
abbrev RawNote.Fits (n : RawNote) : Prop :=
  -2147483648 ≤ n.time ∧ n.time ≤ 2147483647 ∧ -2147483648 ≤ n.endTime ∧ n.endTime ≤ 2147483647 ∧ n.code ≤ 255

/-- What is read of a note: its end time is on the line for HOLD and ROLL alone. -/
def RawNote.plain (n : RawNote) : RawNote := { n with endTime := if n.code = 1 ∨ n.code = 2 then n.endTime else 0 }

/-- The bytes of a note's end time. -/
def RawNote.endBytes (n : RawNote) : List Byte := if n.code = 1 ∨ n.code = 2 then leInt 4 n.endTime else []

theorem RawNote.bytes_append (n : RawNote) (upper : BitVec 7) (rest : List Byte) : n.bytes upper ++ rest
    = bvBytes 2 n.id ++ (leInt 4 n.time ++ ([codeByte n.code] ++ (bvBytes 2 (upper ++ n.lanes) ++ (n.endBytes ++ rest)))) := by
  simp [RawNote.bytes, RawNote.endBytes]

theorem RawNote.length_bytes (n : RawNote) (upper : BitVec 7) :
    (n.bytes upper).length = if n.code = 1 ∨ n.code = 2 then 13 else 9 := by
  unfold RawNote.bytes
  split <;> simp

section

variable {n : RawNote} (h : n.Fits) (upper : BitVec 7) (rest : List Byte)

include h

theorem field_code : field (n.bytes upper ++ rest) 6 1 = n.code := by
  obtain ⟨-, -, -, -, hcode⟩ := h
  rw [RawNote.bytes_append, field_behind (by simp), field_behind (by simp), field_front (by simp) (by simp)]
  exact leNat_codeByte hcode

/-- A record's length is read from its kind code (R27). -/
theorem recordLength_bytes : recordLength (n.bytes upper ++ rest) = (n.bytes upper).length := by
  rw [recordLength, field_code h, RawNote.length_bytes]

/-- A record on the line is read as the note it was written from (R181). -/
theorem readNote_bytes : (readNote (n.bytes upper ++ rest)).plain = n.plain := by
  have hcode := field_code h upper rest
  obtain ⟨ht1, ht2, he1, he2, -⟩ := h
  have hid : field16 (n.bytes upper ++ rest) 0 = n.id := by
    rw [RawNote.bytes_append, field16, field_front rfl (by simp), ofNat_bvBytes]
  have htime : (field32 (n.bytes upper ++ rest) 2).toInt = n.time := by
    rw [RawNote.bytes_append, field32, field_behind (by simp), field_front (by simp) (by simp), toInt_leInt ⟨ht1, ht2⟩]
  have hlanes : laneField (field16 (n.bytes upper ++ rest) 7) = n.lanes := by
    rw [RawNote.bytes_append, field16, field_behind (by simp), field_behind (by simp), field_behind (by simp),
      field_front (by simp) (by simp), ofNat_bvBytes, laneField_append]
  have hend : n.code = 1 ∨ n.code = 2 → (field32 (n.bytes upper ++ rest) 9).toInt = n.endTime := fun hlong => by
    rw [RawNote.bytes_append, field32, field_behind (by simp), field_behind (by simp), field_behind (by simp),
      field_behind (by simp), RawNote.endBytes, if_pos hlong, field_front (by simp) (by simp), toInt_leInt ⟨he1, he2⟩]
  unfold readNote RawNote.plain
  simp only [hid, htime, hcode, hlanes]
  split
  next hlong => rw [hend hlong]
  next => rfl

end

/-! ### The records of a block (R27) -/

/-- The records of a block on the line, one behind the other. -/
def recordBytes (sent : List (RawNote × BitVec 7)) : List Byte := sent.flatMap fun n => n.1.bytes n.2

theorem recordBytes_cons (n : RawNote × BitVec 7) (sent : List (RawNote × BitVec 7)) :
    recordBytes (n :: sent) = n.1.bytes n.2 ++ recordBytes sent := List.flatMap_cons

/-- The walk takes a record and goes on behind it. -/
theorem walkNotes_succ {n : RawNote} (h : n.Fits) (upper : BitVec 7) (count : Nat) (rest : List Byte) :
    walkNotes (count + 1) (n.bytes upper ++ rest)
      = (walkNotes count rest).map (readNote (n.bytes upper ++ rest) :: ·) := by
  rw [walkNotes, recordLength_bytes h, if_neg (by simp), List.drop_left]

/-- The walk stops where the bytes end. -/
theorem walkNotes_nil (count : Nat) : walkNotes (count + 1) [] = none := by
  rw [walkNotes, if_pos]
  decide

theorem walkNotes_short {count : Nat} {b : List Byte} (h : b.length < recordLength b) : walkNotes (count + 1) b = none := by
  rw [walkNotes, if_pos h]

/-- Bytes behind the last record fail the walk (R27). -/
theorem walkNotes_zero {b : List Byte} (h : b ≠ []) : walkNotes 0 b = none := by
  cases b with
  | nil => exact absurd rfl h
  | cons => rfl

theorem RawNote.bytes_ne_nil (n : RawNote) (upper : BitVec 7) : n.bytes upper ≠ [] := fun h => by
  have hlen := n.length_bytes upper
  rw [h] at hlen
  split at hlen <;> cases hlen

/-- A record cut short is shorter than its length, which its kind code or the want of it gives. -/
theorem recordLength_take {n : RawNote} (h : n.Fits) (upper : BitVec 7) (rest : List Byte) {m : Nat}
    (hm : m < (n.bytes upper).length) :
    ((n.bytes upper ++ rest).take m).length < recordLength ((n.bytes upper ++ rest).take m) := by
  have hlen : ((n.bytes upper ++ rest).take m).length = m := by simp; omega
  have hnine : 9 ≤ recordLength ((n.bytes upper ++ rest).take m) := by unfold recordLength; split <;> omega
  by_cases h7 : m < 7
  · omega
  · have hcode : field ((n.bytes upper ++ rest).take m) 6 1 = n.code := by
      rw [← field_within (ys := (n.bytes upper ++ rest).drop m) (by omega), List.take_append_drop]
      exact field_code h upper rest
    rw [hlen, recordLength, hcode, ← RawNote.length_bytes n upper]
    exact hm

section

variable {sent : List (RawNote × BitVec 7)} (h : ∀ n ∈ sent.map Prod.fst, n.Fits)

include h

/-- The records of a block are read as the notes they were written from. -/
theorem walkNotes_recordBytes :
    ∃ got, walkNotes sent.length (recordBytes sent) = some got
      ∧ got.map RawNote.plain = (sent.map Prod.fst).map RawNote.plain := by
  induction sent with
  | nil => exact ⟨[], rfl, rfl⟩
  | cons n sent ih =>
    obtain ⟨hn, hsent⟩ := List.forall_mem_cons.mp h
    obtain ⟨got, hgot, hplain⟩ := ih hsent
    refine ⟨_, by rw [recordBytes_cons, List.length_cons, walkNotes_succ hn, hgot, Option.map_some], ?_⟩
    simp only [List.map_cons, readNote_bytes hn, hplain]

/-- Records in another number than the count says fail the walk (R27). -/
theorem walkNotes_count {count : Nat} (hc : count ≠ sent.length) : walkNotes count (recordBytes sent) = none := by
  induction sent generalizing count with
  | nil =>
    obtain ⟨k, rfl⟩ := Nat.exists_eq_succ_of_ne_zero hc
    exact walkNotes_nil k
  | cons n sent ih =>
    obtain ⟨hn, hsent⟩ := List.forall_mem_cons.mp h
    rw [recordBytes_cons]
    cases count with
    | zero => exact walkNotes_zero (List.append_ne_nil_of_left_ne_nil (n.1.bytes_ne_nil n.2) _)
    | succ k => rw [walkNotes_succ hn, ih hsent (by simpa using hc), Option.map_none]

/-- Bytes behind the records of a block fail the walk (R27). -/
theorem walkNotes_more {more : List Byte} (hm : more ≠ []) : walkNotes sent.length (recordBytes sent ++ more) = none := by
  induction sent with
  | nil => exact walkNotes_zero hm
  | cons n sent ih =>
    obtain ⟨hn, hsent⟩ := List.forall_mem_cons.mp h
    rw [recordBytes_cons, List.append_assoc, List.length_cons, walkNotes_succ hn, ih hsent, Option.map_none]

/-- Records of a block cut short fail the walk (R27). -/
theorem walkNotes_cut {m : Nat} (hm : m < (recordBytes sent).length) :
    walkNotes sent.length ((recordBytes sent).take m) = none := by
  induction sent generalizing m with
  | nil => cases hm
  | cons n sent ih =>
    obtain ⟨hn, hsent⟩ := List.forall_mem_cons.mp h
    rw [recordBytes_cons] at hm ⊢
    rw [List.length_cons]
    by_cases hin : m < (n.1.bytes n.2).length
    · exact walkNotes_short (recordLength_take hn n.2 _ hin)
    · rw [List.length_append] at hm
      rw [List.take_append, List.take_of_length_le (by omega), walkNotes_succ hn, ih hsent (by omega), Option.map_none]

end

/-! ### What the checks and the joining see of a note -/

section

variable (n : RawNote)

@[simp] theorem RawNote.kind_plain : n.plain.kind = n.kind := by
  unfold RawNote.kind RawNote.plain
  dsimp only
  split <;> simp_all

@[simp] theorem RawNote.wellFormed_plain : n.plain.wellFormed = n.wellFormed := by
  unfold RawNote.wellFormed
  rw [RawNote.kind_plain]
  rfl

@[simp] theorem RawNote.record_plain : n.plain.record = n.record := by
  unfold RawNote.record
  rw [RawNote.kind_plain]
  rfl

@[simp] theorem RawNote.isVoid_plain (st : Station) (t : Int) : n.plain.isVoid st t = n.isVoid st t := by
  unfold RawNote.isVoid
  rw [RawNote.kind_plain]
  rfl

end

section

variable (notes : List RawNote)

theorem firstFail_plain {test : RawNote → Bool} (h : ∀ n, test n.plain = test n) :
    firstFail test (notes.map RawNote.plain) = firstFail test notes := by
  rw [firstFail, List.findIdx?_map, firstFail]
  exact congrArg (List.findIdx? · notes) (funext fun n => congrArg Bool.not (h n))

theorem orderFail_plain (hz : Horizon) (before : Option Int) (k : Nat) :
    orderFail hz before k (notes.map RawNote.plain) = orderFail hz before k notes := by
  induction notes generalizing before k with
  | nil => rfl
  | cons n ns ih =>
    rw [List.map_cons, orderFail_cons, orderFail_cons, ih]
    rfl

theorem lastTime_plain : lastTime (notes.map RawNote.plain) = lastTime notes := by
  unfold lastTime
  rw [List.getLast?_map, Option.map_map]
  rfl

theorem checkNotes_plain (st : Station) (covered : Int) :
    checkNotes st covered (notes.map RawNote.plain) = checkNotes st covered notes := by
  unfold checkNotes
  rw [firstFail_plain notes RawNote.wellFormed_plain, firstFail_plain notes fun _ => rfl, orderFail_plain, lastTime_plain,
    List.length_map]

theorem voidCount_plain (st : Station) (t : Int) : voidCount st t (notes.map RawNote.plain) = voidCount st t notes := by
  unfold voidCount
  rw [List.filter_map, List.length_map]
  exact congrArg (fun f => (notes.filter f).length) (funext fun n => n.isVoid_plain st t)

theorem joinNotes_plain (p : Play) (i : StationId) :
    Play.joinNotes i (notes.map RawNote.plain) p = Play.joinNotes i notes p := by
  induction notes generalizing p with
  | nil => rfl
  | cons n ns ih =>
    rw [List.map_cons, Play.joinNotes, Play.joinNotes, ih, RawNote.isVoid_plain, RawNote.record_plain]
    rfl

theorem takeBlock_plain (p : Play) (i : StationId) (down : Nine Bool) (covered : Int) :
    p.takeBlock i down covered (notes.map RawNote.plain) = p.takeBlock i down covered notes := by
  unfold Play.takeBlock
  rw [joinNotes_plain, lastTime_plain]

end

/-! ### The checks on the notes of a block (R27 to R29) -/

section

variable {test : RawNote → Bool} {front back : List RawNote} {n : RawNote}

theorem firstFail_none {notes : List RawNote} (h : notes.all test = true) : firstFail test notes = none := by
  rw [firstFail, List.findIdx?_eq_none_iff]
  intro m hm
  rw [List.all_eq_true.mp h m hm]
  rfl

/-- The first note that fails is found at its position. -/
theorem firstFail_append (hfront : front.all test = true) (hn : test n = false) :
    firstFail test (front ++ n :: back) = some front.length := by
  have hnone : front.findIdx? (fun m => !test m) = none := firstFail_none hfront
  rw [firstFail, List.findIdx?_append, hnone, List.findIdx?_cons, hn]
  simp

variable {hz : Horizon} {before : Option Int}

/-- A note that follows a time and one before which another stands no later follows that one too. -/
theorem RawNote.follows_of_le {m : RawNote} (h : n.follows hz before = true) (hle : m.time ≤ n.time) :
    n.follows hz (some m.time) = true := by
  obtain ⟨-, hallows⟩ := Bool.and_eq_true_iff.mp h
  simp [RawNote.follows, hallows, hle]

/-- Notes that rise and follow a time from the first on follow each the one before it. -/
theorem follows_tail {m : RawNote} {ns : List RawNote} (hrise : (m :: ns).Pairwise fun a b => a.time ≤ b.time)
    (hall : (m :: ns).all (RawNote.follows hz before) = true) :
    m.follows hz before = true ∧ ns.Pairwise (fun a b => a.time ≤ b.time)
      ∧ ns.all (RawNote.follows hz (some m.time)) = true := by
  obtain ⟨hle, hrise⟩ := List.pairwise_cons.mp hrise
  obtain ⟨hm, hns⟩ := List.forall_mem_cons.mp (List.all_eq_true.mp hall)
  exact ⟨hm, hrise, List.all_eq_true.mpr fun x hx => RawNote.follows_of_le (hns x hx) (hle x hx)⟩

theorem orderFail_none {notes : List RawNote} {k : Nat} (hrise : notes.Pairwise fun a b => a.time ≤ b.time)
    (hall : notes.all (RawNote.follows hz before) = true) : orderFail hz before k notes = none := by
  induction notes generalizing before k with
  | nil => rfl
  | cons m ns ih =>
    obtain ⟨hm, hrise, hall⟩ := follows_tail hrise hall
    rw [orderFail_cons, if_pos hm, ih hrise hall]

/-- The first note out of order is found at its position (R28). -/
theorem orderFail_append {k : Nat} (hrise : front.Pairwise fun a b => a.time ≤ b.time)
    (hall : front.all (RawNote.follows hz before) = true)
    (hn : n.follows hz (if front = [] then before else front.getLast?.map RawNote.time) = false) :
    orderFail hz before k (front ++ n :: back) = some (k + front.length) := by
  induction front generalizing before k with
  | nil =>
    rw [if_pos rfl] at hn
    simp [orderFail_cons, hn]
  | cons m fs ih =>
    obtain ⟨hm, hrise, hall⟩ := follows_tail hrise hall
    have hlast : (if fs = [] then some m.time else fs.getLast?.map RawNote.time)
        = if m :: fs = [] then before else (m :: fs).getLast?.map RawNote.time := by
      cases fs <;> simp [List.getLast?_cons_cons]
    rw [List.cons_append, orderFail_cons, if_pos hm, ih hrise hall (hlast ▸ hn), List.length_cons, Nat.add_right_comm,
      Nat.add_assoc]

end

/-- The form of a note, in the terms of its kind code (R27). -/
theorem RawNote.wellFormed_eq (n : RawNote) : n.wellFormed = decide
    (n.code ≤ 3 ∧ 1 ≤ (LaneSet.lanes n.lanes).length ∧ (n.code ≠ 0 → (LaneSet.lanes n.lanes).length = 1)
      ∧ ((n.code = 1 ∨ n.code = 2) → n.time < n.endTime)) := by
  rw [Bool.eq_iff_iff, decide_eq_true_eq]
  unfold RawNote.wellFormed RawNote.kind
  rcases n with ⟨id, time, code, lanes, endTime⟩
  match code with
  | 0 => simp
  | 1 => simp; omega
  | 2 => simp; omega
  | 3 => simp; omega
  | k + 4 => simp

section

variable {st : Station} {covered : Int} {notes : List RawNote}

theorem checkNotes_badNote {k : Nat} (h : firstFail RawNote.wellFormed notes = some k) :
    checkNotes st covered notes = some ⟨.badNote, k⟩ := by
  simp only [checkNotes, h]

variable (hform : notes.all RawNote.wellFormed = true)

include hform

theorem checkNotes_badLane {k : Nat} (h : firstFail (fun n => (n.lanes &&& ~~~ st.mask) = 0) notes = some k) :
    checkNotes st covered notes = some ⟨.badLane, k⟩ := by
  simp only [checkNotes, firstFail_none hform, h]

variable (hlanes : notes.all (fun n => decide ((n.lanes &&& ~~~ st.mask) = 0)) = true)

include hlanes

theorem checkNotes_order {k : Nat} (h : orderFail st.feed.horizon st.feed.tailTime 0 notes = some k) :
    checkNotes st covered notes = some ⟨.order, k⟩ := by
  simp only [checkNotes, firstFail_none hform, firstFail_none hlanes, h]

variable (hins : orderFail st.feed.horizon st.feed.tailTime 0 notes = none)

include hins

theorem checkNotes_covered (h : covered < lastTime notes) : checkNotes st covered notes = some ⟨.order, 16⟩ := by
  simp only [checkNotes, firstFail_none hform, firstFail_none hlanes, hins, if_pos h]

variable (hc : lastTime notes ≤ covered)

include hc

theorem checkNotes_full (hne : 1 ≤ notes.length) (h : 192 < notes.length + st.feed.queue.length) :
    checkNotes st covered notes = some ⟨.full, 255⟩ := by
  have hfree : notes.length > st.feed.free := by unfold Feed.free Config.queueCapacity; omega
  simp only [checkNotes, firstFail_none hform, firstFail_none hlanes, hins, if_neg (not_lt.mpr hc), if_pos hfree]

theorem checkNotes_room (h : notes.length + st.feed.queue.length ≤ 192) : checkNotes st covered notes = none := by
  have hfree : ¬ notes.length > st.feed.free := by unfold Feed.free Config.queueCapacity; omega
  simp only [checkNotes, firstFail_none hform, firstFail_none hlanes, hins, if_neg (not_lt.mpr hc), if_neg hfree]

end

/-! ### The request on its payload (R26 to R29) -/

/-- The bytes of a block before its records: station, count and covered-until time (R181). -/
def blockHead (station count : Byte) (covered : Int) : List Byte := [station, count] ++ leInt 4 covered

theorem blockPayload_eq (station : Byte) (covered : Int) (sent : List (RawNote × BitVec 7)) :
    blockPayload station covered sent = blockHead station (codeByte sent.length) covered ++ recordBytes sent := rfl

section

variable (station count : Byte) (covered : Int) (body : List Byte)

theorem blockHead_append : blockHead station count covered ++ body = [station] ++ ([count] ++ (leInt 4 covered ++ body)) := by
  simp [blockHead]

theorem length_blockHead : (blockHead station count covered).length = 6 := by simp [blockHead]

theorem leNat_singleton (b : Byte) : leNat [b] = b.toNat := by simp [leNat]

theorem field8_blockHead : field8 (blockHead station count covered ++ body) 0 = station := by
  rw [blockHead_append, field8, field_front rfl (by simp), leNat_singleton, BitVec.ofNat_toNat, BitVec.setWidth_eq]

theorem count_blockHead : field (blockHead station count covered ++ body) 1 1 = count.toNat := by
  rw [blockHead_append, field_behind (by simp), field_front (by simp) (by simp), leNat_singleton]

theorem covered_blockHead {covered : Int} (h : InTimeRange covered) :
    (field32 (blockHead station count covered ++ body) 2).toInt = covered := by
  rw [blockHead_append, field32, field_behind (by simp), field_behind (by simp), field_front (by simp) (by simp), toInt_leInt h]

theorem drop_blockHead : (blockHead station count covered ++ body).drop 6 = body :=
  List.drop_left' (length_blockHead station count covered)

end

section

variable {s : State} {station count : Byte} {covered : Int} {body : List Byte} {i : StationId}

theorem ownNoteBlock_unknown (h : 3 < station.toNat) :
    ownNoteBlock (blockHead station count covered ++ body) s = (blockUnknown .badArg, s) := by
  simp only [ownNoteBlock, field8_blockHead, stationOf_of_gt h]

variable (hi : station.toNat = i.val)

include hi

theorem ownNoteBlock_busy (h : (s.play.station i).takesNotes = false) :
    ownNoteBlock (blockHead station count covered ++ body) s
      = (blockRefused station (s.play.station i).feed ⟨.busy, 255⟩, s) := by
  simp only [ownNoteBlock, field8_blockHead, stationOf_of_eq hi, h, Bool.not_false, if_true]

variable (ht : (s.play.station i).takesNotes = true)

include ht

/-- A count outside its range, or records that do not end with the payload (R27). -/
theorem ownNoteBlock_badLength (h : 1 ≤ count.toNat → count.toNat ≤ 16 → walkNotes count.toNat body = none) :
    ownNoteBlock (blockHead station count covered ++ body) s
      = (blockRefused station (s.play.station i).feed ⟨.badLength, 255⟩, s.lengthError) := by
  have hwalk : (if 1 ≤ count.toNat ∧ count.toNat ≤ Config.blockMax then walkNotes count.toNat body else none) = none := by
    split
    next hc => exact h hc.1 hc.2
    next => rfl
  simp only [ownNoteBlock, field8_blockHead, stationOf_of_eq hi, ht, Bool.not_true, Bool.false_eq_true, if_false,
    count_blockHead, drop_blockHead, hwalk]

variable (hcov : InTimeRange covered) {got : List RawNote} (hc : 1 ≤ count.toNat ∧ count.toNat ≤ 16)
  (hgot : walkNotes count.toNat body = some got)

include hcov hc hgot

theorem ownNoteBlock_refused {r : BlockRefusal} (h : checkNotes (s.play.station i) covered got = some r) :
    ownNoteBlock (blockHead station count covered ++ body) s = (blockRefused station (s.play.station i).feed r, s) := by
  have hcount : 1 ≤ count.toNat ∧ count.toNat ≤ Config.blockMax := hc
  simp only [ownNoteBlock, field8_blockHead, stationOf_of_eq hi, ht, Bool.not_true, Bool.false_eq_true, if_false,
    count_blockHead, drop_blockHead, if_pos hcount, hgot, covered_blockHead _ _ _ hcov, h]

theorem ownNoteBlock_taken (h : checkNotes (s.play.station i) covered got = none) :
    ownNoteBlock (blockHead station count covered ++ body) s =
      (.ok (blockFields station (((s.play.takeBlock i (s.downs.get i) covered got).station i).feed).free
        (((s.play.takeBlock i (s.downs.get i) covered got).station i).feed).horizon
        (voidCount (s.play.station i) s.play.time got) 255),
        { s with play := s.play.takeBlock i (s.downs.get i) covered got }) := by
  have hcount : 1 ≤ count.toNat ∧ count.toNat ≤ Config.blockMax := hc
  simp only [ownNoteBlock, field8_blockHead, stationOf_of_eq hi, ht, Bool.not_true, Bool.false_eq_true, if_false,
    count_blockHead, drop_blockHead, if_pos hcount, hgot, covered_blockHead _ _ _ hcov, h]
  rfl

end

/-! ### The block as it is taken (R30, R31, R33, R37, R64) -/

theorem PlayMoves.time {i : StationId} {p q : Play} (h : PlayMoves i p q) : q.time = p.time := by
  change q.timeline.t = p.timeline.t
  rw [← (PlayMoves.sameBut h).timeline]

/-- No starvation test of the station is due at T or before (R36). -/
def Play.Fed (p : Play) (i : StationId) : Prop :=
  (p.station i).feed.starved = true ∨ (p.station i).feed.horizon = .unbounded
    ∨ ∃ h, (p.station i).feed.horizon = .value h ∧ p.time < h

theorem Play.Fed.moves {p q : Play} {i : StationId} (h : p.Fed i) (hm : PlayMoves i p q) : q.Fed i := by
  have hf := PlayMoves.feed_shrinks hm
  unfold Play.Fed
  rw [hf.horizon, PlayMoves.time hm]
  exact h.imp_left hf.starved

/-- On a fed station the deadline taken next at joining is the one R45 takes next. -/
theorem Play.Fed.nextJoinDue_eq {p : Play} {i : StationId} (h : p.Fed i) : p.nextJoinDue i = p.nextDue i := by
  unfold Play.nextJoinDue Play.nextDue
  congr 1
  refine List.filter_congr fun d hd => ?_
  obtain ⟨v, kind⟩ := d
  by_cases hk : kind = .starvation
  · subst hk
    obtain ⟨-, -, -, hstarved, hvalue⟩ := (p.mem_dues_iff i _).mp hd
    have hlate : ¬ v ≤ p.time := by
      rcases h with h | h | ⟨w, hw, hlt⟩
      · rw [h] at hstarved; cases hstarved
      · simp [h] at hvalue
      · simp only [hw, Horizon.value.injEq, reduceCtorEq, false_and, or_false] at hvalue
        exact not_le.mpr (hvalue ▸ hlt)
    simp [hlate]
  · simp [hk]

theorem Play.Fed.takeJoinDues_eq {p : Play} {i : StationId} (h : p.Fed i) (down : Nine Bool) (fuel : Nat) :
    Play.takeJoinDues i down fuel p = Play.takeDues i down fuel p := by
  induction fuel generalizing p with
  | zero => rfl
  | succ fuel ih =>
    rw [Play.takeJoinDues, Play.takeDues, h.nextJoinDue_eq]
    cases hdue : p.nextDue i with
    | none => rfl
    | some d => exact ih (h.moves (p.takeDue_moves i down d (p.inPlay_of_nextDue i hdue)))

section

variable (p : Play) (i : StationId) (down : Nine Bool) (notes : List RawNote)

/-- On a LOADED station nothing is taken at joining (R64). -/
theorem Play.blockJoined_loaded (h : (p.station i).state = .loaded) : p.blockJoined i down notes = p.joinNotes i notes := by
  have hst : ((p.joinNotes i notes).station i).state = .loaded := by
    rw [Play.joinNotes_eq, Play.station_put]
    exact h
  unfold Play.blockJoined
  dsimp only
  rw [hst, if_neg (by simp)]

/-- On a RUNNING station that is fed the deadlines reached at joining are taken in the order of R45 (R64). -/
theorem Play.blockJoined_running (h : (p.station i).state = .running) (hf : p.Fed i) :
    p.blockJoined i down notes
      = Play.takeDues i down ((p.joinNotes i notes).dueBound i) (p.joinNotes i notes) := by
  have hput := p.joinNotes_eq i notes
  have hst : ((p.joinNotes i notes).station i).state = .running := by
    rw [hput, Play.station_put]
    exact h
  have hfed : (p.joinNotes i notes).Fed i := by
    rw [hput, Play.Fed, Play.station_put]
    exact hf
  unfold Play.blockJoined
  dsimp only
  rw [if_pos hst, hfed.takeJoinDues_eq]

/-- The play blocks with an accepted block's tail time, H and starved flag set, as they follow from the feed `f` before it
(R23, R33, R37). -/
def Play.sealed (v : Play) (i : StationId) (f : Feed) (now last covered : Int) : Play :=
  v.setStation i { v.station i with feed := { (v.station i).feed with
    tailTime := some last
    horizon := f.horizon.raise covered
    starved := f.starved && !(f.horizon.raise covered).above now } }

/-- A block taken is sealed by the feed before it, where a station starved by the block's settlements has H above T. -/
theorem Play.takeBlock_sealed (covered : Int)
    (h : (p.station i).state = .loaded ∨ p.Fed i) : p.takeBlock i down covered notes
      = (p.blockJoined i down notes).sealed i (p.station i).feed p.time (lastTime notes) covered := by
  have hmoves := p.blockJoined_moves i down notes
  have hfeed := PlayMoves.feed_shrinks hmoves
  have htime : (p.blockJoined i down notes).time = p.time := by
    rw [PlayMoves.time hmoves, Play.joinNotes_eq]
    rfl
  have hjoin : ((p.joinNotes i notes).station i).feed.horizon = (p.station i).feed.horizon
      ∧ ((p.joinNotes i notes).station i).feed.starved = (p.station i).feed.starved := by
    rw [Play.joinNotes_eq, Play.station_put]
    exact ⟨rfl, rfl⟩
  have hhorizon : ((p.blockJoined i down notes).station i).feed.horizon = (p.station i).feed.horizon :=
    hfeed.horizon.trans hjoin.1
  have hstarved : (((p.blockJoined i down notes).station i).feed.starved
        && !((p.station i).feed.horizon.raise covered).above p.time)
      = ((p.station i).feed.starved && !((p.station i).feed.horizon.raise covered).above p.time) := by
    rcases h with h | h | h | ⟨w, hw, hlt⟩
    · rw [p.blockJoined_loaded i down notes h, hjoin.2]
    · rw [h, hfeed.starved (hjoin.2.trans h)]
    · simp [h, Horizon.raise, Horizon.above]
    · have habove : p.time < max w covered := lt_max_of_lt_left hlt
      simp [hw, Horizon.raise, Horizon.above, habove]
  rw [Play.takeBlock_eq, Play.modStation, Play.sealed, Feed.afterBlock, htime, hhorizon, hstarved]

end

/-! ### What joins and what is VOID, by the kind codes (R21, R30) -/

/-- T has reached a note's close (R30, R44). -/
def RawNote.late (st : Station) (now : Int) (n : RawNote) : Bool := decide
  (n.time + st.judge.offset + (if n.code = 3 then st.judge.wm else st.judge.w5) + 2000 ≤ now)

/-- The record of a note of a known kind code, as it joins a queue (R21). -/
def RawNote.queued (n : RawNote) : NoteRecord :=
  { id := n.id, time := n.time
    kind := if n.code = 0 then .tap else if n.code = 1 then .hold n.endTime else if n.code = 2 then .roll n.endTime else .mine
    lanes := n.lanes, laneHits := [], touched := false, checkTaken := false, pressTaken := false }

theorem RawNote.record_eq_queued {n : RawNote} (h : n.code ≤ 3) : n.record = n.queued := by
  unfold RawNote.record RawNote.queued RawNote.kind
  rcases n with ⟨id, time, code, lanes, endTime⟩
  match code, h with
  | 0, _ => rfl
  | 1, _ => rfl
  | 2, _ => rfl
  | 3, _ => rfl

theorem RawNote.kind_eq_mine {n : RawNote} : n.kind = some .mine ↔ n.code = 3 := by
  unfold RawNote.kind
  split <;> simp_all

theorem RawNote.isVoid_loaded {st : Station} (h : st.state = .loaded) (t : Int) (n : RawNote) : n.isVoid st t = false := by
  simp [RawNote.isVoid, h]

theorem RawNote.isVoid_running {st : Station} (h : st.state = .running) (t : Int) : RawNote.isVoid st t = RawNote.late st t := by
  funext n
  unfold RawNote.isVoid RawNote.late JudgeConfig.closeAt JudgeConfig.mineCloseAt JudgeConfig.effective Config.settleMargin
  simp only [h, RawNote.kind_eq_mine]
  split <;> simp

theorem voidsAfter_length (voids : Nat) (l : List RawNote) :
    voidsAfter voids l.length = if l = [] then voids else min 65535 (voids + l.length) := by
  simp only [voidsAfter, List.length_eq_zero_iff]

section

variable {st : Station} {notes : List RawNote} (hform : ∀ n ∈ notes, n.code ≤ 3)

include hform

theorem Station.joined_loaded (h : st.state = .loaded) (t : Int) : st.joined t notes
    = { st with feed := { st.feed with queue := st.feed.queue ++ notes.map RawNote.queued } } := by
  have hrecord : notes.map RawNote.record = notes.map RawNote.queued :=
    List.map_congr_left fun n hn => RawNote.record_eq_queued (hform n hn)
  simp [Station.joined, voidCount, voidsAfter, RawNote.isVoid_loaded h, hrecord]

theorem Station.joined_running (h : st.state = .running) (t : Int) : st.joined t notes
    = { st with
        tally := { st.tally with
          voids := if notes.filter (RawNote.late st t) = [] then st.tally.voids
            else min 65535 (st.tally.voids + (notes.filter (RawNote.late st t)).length) }
        feed := { st.feed with
          queue := st.feed.queue ++ (notes.filter fun n => !n.late st t).map RawNote.queued } } := by
  have hrecord : (notes.filter fun n => !n.late st t).map RawNote.record
      = (notes.filter fun n => !n.late st t).map RawNote.queued :=
    List.map_congr_left fun n hn => RawNote.record_eq_queued (hform n (List.mem_filter.mp hn).1)
  rw [Station.joined, voidCount, RawNote.isVoid_running h, voidsAfter_length, hrecord]

end

/-! ### NOTE_BLOCK on a ready part -/

theorem exec_noteBlock {tag : Byte} {payload : List Byte} {s t : State} {a : Answer} (hr : s.Ready)
    (hlen : 15 ≤ payload.length ∧ payload.length ≤ 214) (ho : ownNoteBlock payload s.counted = (a, t.counted)) :
    exec (.noteBlock tag payload) s = .next (t.answered 0x11 tag a) :=
  next_answered hr (by rw [admitNoteBlock, if_pos hlen, ho])

theorem length_recordBytes (sent : List (RawNote × BitVec 7)) :
    9 * sent.length ≤ (recordBytes sent).length ∧ (recordBytes sent).length ≤ 13 * sent.length := by
  induction sent with
  | nil => exact ⟨le_rfl, le_rfl⟩
  | cons n sent ih =>
    have hlen : 9 ≤ (n.1.bytes n.2).length ∧ (n.1.bytes n.2).length ≤ 13 := by
      rw [RawNote.length_bytes]
      split <;> omega
    rw [recordBytes_cons, List.length_append, List.length_cons]
    omega

theorem length_blockPayload (station : Byte) (covered : Int) (sent : List (RawNote × BitVec 7)) :
    (blockPayload station covered sent).length = 6 + (recordBytes sent).length := by
  rw [blockPayload_eq, List.length_append, length_blockHead]

section

variable {s : State} {station : Byte} {covered : Int} {sent : List (RawNote × BitVec 7)} {i : StationId} {tag : Byte}
  (hr : s.Ready) (hi : station.toNat = i.val)

include hr hi

theorem noteBlock_busy (hlen : 15 ≤ (blockPayload station covered sent).length ∧ (blockPayload station covered sent).length ≤ 214)
    (ht : (s.play.station i).takesNotes = false) : exec (.noteBlock tag (blockPayload station covered sent)) s
      = .next (s.answered 0x11 tag (blockRefused station (s.play.station i).feed ⟨.busy, 255⟩)) :=
  exec_noteBlock hr hlen (ownNoteBlock_busy (s := s.counted) hi ht)

variable (ht : (s.play.station i).takesNotes = true)

include ht

theorem noteBlock_badLength {count : Byte} {body : List Byte} (hlen : 15 ≤ (blockHead station count covered ++ body).length
      ∧ (blockHead station count covered ++ body).length ≤ 214)
    (h : 1 ≤ count.toNat → count.toNat ≤ 16 → walkNotes count.toNat body = none) :
    exec (.noteBlock tag (blockHead station count covered ++ body)) s = .next (State.answered s.lengthError 0x11 tag
      (blockRefused station (s.play.station i).feed ⟨.badLength, 255⟩)) :=
  exec_noteBlock hr hlen (ownNoteBlock_badLength (s := s.counted) hi ht h)

variable (hcov : InTimeRange covered) (hfit : ∀ n ∈ sent.map Prod.fst, n.Fits) (h1 : 1 ≤ (sent.map Prod.fst).length)
  (h16 : (sent.map Prod.fst).length ≤ 16)

include hfit h1 h16

/-- Records cut short, or bytes behind them (R27). -/
theorem noteBlock_uneven {kept : Nat} {more : List Byte}
    (h : (kept < (blockPayload station covered sent).length ∧ more = [])
      ∨ (kept = (blockPayload station covered sent).length ∧ more ≠ []))
    (hlo : 15 ≤ ((blockPayload station covered sent).take kept ++ more).length)
    (hhi : ((blockPayload station covered sent).take kept ++ more).length ≤ 214) :
    exec (.noteBlock tag ((blockPayload station covered sent).take kept ++ more)) s = .next (State.answered s.lengthError 0x11 tag
      (blockRefused station (s.play.station i).feed ⟨.badLength, 255⟩)) := by
  rw [List.length_map] at h1 h16
  have hcount : (codeByte sent.length).toNat = sent.length := by simp [codeByte]; omega
  rcases h with ⟨hcut, rfl⟩ | ⟨rfl, hmore⟩
  · rw [List.append_nil] at hlo hhi ⊢
    rw [List.length_take] at hlo
    have htake : (blockPayload station covered sent).take kept
        = blockHead station (codeByte sent.length) covered ++ (recordBytes sent).take (kept - 6) := by
      rw [blockPayload_eq, List.take_append, List.take_of_length_le (by rw [length_blockHead]; omega), length_blockHead]
    rw [length_blockPayload] at hcut
    rw [htake] at hhi ⊢
    refine noteBlock_badLength hr hi ht ⟨by rw [← htake, List.length_take]; exact hlo, hhi⟩ fun _ _ => ?_
    rw [hcount]
    exact walkNotes_cut hfit (by omega)
  · rw [List.take_length, blockPayload_eq, List.append_assoc] at hlo hhi ⊢
    refine noteBlock_badLength hr hi ht ⟨hlo, hhi⟩ fun _ _ => ?_
    rw [hcount]
    exact walkNotes_more hfit hmore

include hcov

theorem noteBlock_refused {r : BlockRefusal} (h : checkNotes (s.play.station i) covered (sent.map Prod.fst) = some r) :
    exec (.noteBlock tag (blockPayload station covered sent)) s
      = .next (s.answered 0x11 tag (blockRefused station (s.play.station i).feed r)) := by
  rw [List.length_map] at h1 h16
  have hcount : (codeByte sent.length).toNat = sent.length := by simp [codeByte]; omega
  have hlen := length_recordBytes sent
  obtain ⟨got, hgot, hplain⟩ := walkNotes_recordBytes hfit
  refine exec_noteBlock hr (by rw [length_blockPayload]; omega) ?_
  refine ownNoteBlock_refused (s := s.counted) hi ht hcov (by omega) (by rw [hcount]; exact hgot) ?_
  rw [← checkNotes_plain, hplain, checkNotes_plain]
  exact h

/-- A block taken: sealed after the joining of its notes, its reply from the feed then (R29, R30). -/
theorem noteBlock_taken (h : checkNotes (s.play.station i) covered (sent.map Prod.fst) = none)
    (hst : (s.play.station i).state = .loaded ∨ s.play.Fed i) :
    let v := (s.play.blockJoined i (s.downs.get i) (sent.map Prod.fst)).sealed i (s.play.station i).feed s.play.time
      (lastTime (sent.map Prod.fst)) covered
    exec (.noteBlock tag (blockPayload station covered sent)) s = .next (State.answered { s with play := v } 0x11 tag
      ⟨.ok, false, blockFields station (v.station i).feed.free ((s.play.station i).feed.horizon.raise covered)
        (voidCount (s.play.station i) s.play.time (sent.map Prod.fst)) 255⟩) := by
  intro v
  rw [List.length_map] at h1 h16
  have hcount : (codeByte sent.length).toNat = sent.length := by simp [codeByte]; omega
  have hlen := length_recordBytes sent
  obtain ⟨got, hgot, hplain⟩ := walkNotes_recordBytes hfit
  have htaken : s.play.takeBlock i (s.downs.get i) covered got = v := by
    rw [← takeBlock_plain, hplain, takeBlock_plain]
    exact s.play.takeBlock_sealed i _ _ covered hst
  have hvoid : voidCount (s.play.station i) s.play.time got
      = voidCount (s.play.station i) s.play.time (sent.map Prod.fst) := by
    rw [← voidCount_plain, hplain, voidCount_plain]
  have hhorizon : (v.station i).feed.horizon = (s.play.station i).feed.horizon.raise covered :=
    congrArg (fun st => st.feed.horizon) (Play.station_setStation _ _ _)
  refine exec_noteBlock hr (by rw [length_blockPayload]; omega) ?_
  have how := ownNoteBlock_taken (s := s.counted) hi ht hcov (by rw [hcount]; omega) (by rw [hcount]; exact hgot)
    (by rw [← checkNotes_plain, hplain, checkNotes_plain]; exact h)
  rw [blockPayload_eq, how, ← hhorizon, ← hvoid, ← htaken]
  rfl

end

/-! ### The block taken by a LOADED and by a RUNNING station (R30, R31, R64) -/

theorem ReportQueue.pushAll_nil (q : ReportQueue) : q.pushAll [] = q := rfl

theorem RawNote.filter_isVoid_loaded {st : Station} (h : st.state = .loaded) (t : Int) (notes : List RawNote) :
    notes.filter (RawNote.isVoid st t) = [] :=
  List.filter_eq_nil_iff.mpr fun n _ => by simp [RawNote.isVoid_loaded h]

theorem noteBlock_unknown {s : State} {tag station : Byte} {covered : Int} {sent : List (RawNote × BitVec 7)} (hr : s.Ready)
    (hlen : 15 ≤ (blockPayload station covered sent).length ∧ (blockPayload station covered sent).length ≤ 214)
    (h : 3 < station.toNat) : exec (.noteBlock tag (blockPayload station covered sent)) s
      = .next (s.answered 0x11 tag (blockUnknown .badArg)) :=
  exec_noteBlock hr hlen (ownNoteBlock_unknown (s := s.counted) h)

section

variable {p : Play} {i : StationId} {notes : List RawNote} (hform : ∀ n ∈ notes, n.code ≤ 3)

include hform

theorem Play.joinNotes_loaded (h : (p.station i).state = .loaded) : p.joinNotes i notes
    = p.put i { p.station i with feed := { (p.station i).feed with
        queue := (p.station i).feed.queue ++ notes.map RawNote.queued } } p.lamps p.reports := by
  rw [Play.joinNotes_eq, Station.joined_loaded hform h, RawNote.filter_isVoid_loaded h, List.map_nil, ReportQueue.pushAll_nil]

/-- The notes T has not closed join, the others are counted and told VOID (R30, R31). -/
theorem Play.joinNotes_running (h : (p.station i).state = .running) : p.joinNotes i notes
    = p.put i
      { p.station i with
        tally := { (p.station i).tally with
          voids := if notes.filter (RawNote.late (p.station i) p.time) = [] then (p.station i).tally.voids
            else min 65535 ((p.station i).tally.voids + (notes.filter (RawNote.late (p.station i) p.time)).length) }
        feed := { (p.station i).feed with
          queue := (p.station i).feed.queue
            ++ (notes.filter fun n => !n.late (p.station i) p.time).map RawNote.queued } }
      p.lamps
      (p.reports.pushAll ((notes.filter (RawNote.late (p.station i) p.time)).map (voidReport i (p.station i) p.time))) := by
  rw [Play.joinNotes_eq, Station.joined_running hform h, RawNote.isVoid_running h]
  rfl

end

section

variable {s : State} {station : Byte} {covered : Int} {sent : List (RawNote × BitVec 7)} {i : StationId} {tag : Byte}
  (hr : s.Ready) (hi : station.toNat = i.val) (ht : (s.play.station i).takesNotes = true)

include hr hi ht

theorem noteBlock_wrongCount {count : Byte} (hfit : ∀ n ∈ sent.map Prod.fst, n.Fits)
    (hlen : 15 ≤ (blockPayload station covered sent).length ∧ (blockPayload station covered sent).length ≤ 214)
    (h : count.toNat = 0 ∨ 16 < count.toNat ∨ count.toNat ≠ (sent.map Prod.fst).length) :
    exec (.noteBlock tag ((blockPayload station covered sent).set 1 count)) s = .next (State.answered s.lengthError 0x11 tag
      (blockRefused station (s.play.station i).feed ⟨.badLength, 255⟩)) := by
  have hset : (blockPayload station covered sent).set 1 count = blockHead station count covered ++ recordBytes sent := rfl
  rw [← List.length_set (i := 1) (a := count), hset] at hlen
  rw [List.length_map] at h
  rw [hset]
  exact noteBlock_badLength hr hi ht hlen fun h1 h16 => walkNotes_count hfit (by omega)

variable (hcov : InTimeRange covered) (hfit : ∀ n ∈ sent.map Prod.fst, n.Fits) (h1 : 1 ≤ (sent.map Prod.fst).length)
  (h16 : (sent.map Prod.fst).length ≤ 16) (h : checkNotes (s.play.station i) covered (sent.map Prod.fst) = none)

include hcov hfit h1 h16 h

theorem noteBlock_loaded (hform : ∀ n ∈ sent.map Prod.fst, n.code ≤ 3) (hst : (s.play.station i).state = .loaded) :
    let st := s.play.station i
    let v := (s.play.put i { st with feed := { st.feed with
      queue := st.feed.queue ++ (sent.map Prod.fst).map RawNote.queued } } s.play.lamps s.play.reports).sealed i st.feed
        s.play.time (lastTime (sent.map Prod.fst)) covered
    exec (.noteBlock tag (blockPayload station covered sent)) s = .next (State.answered { s with play := v } 0x11 tag
      ⟨.ok, false, blockFields station (v.station i).feed.free (st.feed.horizon.raise covered) 0 255⟩) := by
  have hvoid : voidCount (s.play.station i) s.play.time (sent.map Prod.fst) = 0 := by
    rw [voidCount, RawNote.filter_isVoid_loaded hst, List.length_nil]
  have htaken := noteBlock_taken (tag := tag) hr hi ht hcov hfit h1 h16 h (.inl hst)
  rw [s.play.blockJoined_loaded i _ _ hst, Play.joinNotes_loaded hform hst, hvoid] at htaken
  exact htaken

/-- The notes join, the deadlines they have reached are taken by their rows, then the block is sealed (entries 11, 41, 44). -/
theorem noteBlock_running (hst : (s.play.station i).state = .running) (hfed : s.play.Fed i) :
    let u := { s with play := s.play.joinNotes i (sent.map Prod.fst) }
    let r := u.rowsTaken i (u.play.dueBound i)
    let v := r.play.sealed i (s.play.station i).feed s.play.time (lastTime (sent.map Prod.fst)) covered
    exec (.noteBlock tag (blockPayload station covered sent)) s = .next (State.answered { r with play := v } 0x11 tag
      ⟨.ok, false, blockFields station (v.station i).feed.free ((s.play.station i).feed.horizon.raise covered)
        ((sent.map Prod.fst).filter (RawNote.late (s.play.station i) s.play.time)).length 255⟩) := by
  have hvoid : voidCount (s.play.station i) s.play.time (sent.map Prod.fst)
      = ((sent.map Prod.fst).filter (RawNote.late (s.play.station i) s.play.time)).length := by
    rw [voidCount, RawNote.isVoid_running hst]
  have htaken := noteBlock_taken (tag := tag) hr hi ht hcov hfit h1 h16 h (.inr hfed)
  rw [s.play.blockJoined_running i _ _ hst hfed, hvoid] at htaken
  have hrows := State.rowsTaken_eq (s := { s with play := s.play.joinNotes i (sent.map Prod.fst) }) hr.1 i
    ((s.play.joinNotes i (sent.map Prod.fst)).dueBound i)
  dsimp only
  rw [hrows]
  exact htaken

end

/-! ### NOTE_BLOCK whole -/

theorem Station.takesNotes_eq_false_of_not {st : Station}
    (h : ¬ ((st.state = .loaded ∨ st.state = .running) ∧ st.feed.chartComplete = false)) : st.takesNotes = false := by
  refine Station.takesNotes_eq_false ?_
  by_contra hno
  refine h ⟨?_, by simpa using fun hc => hno (.inr (.inr (.inr hc)))⟩
  cases hs : st.state <;> simp_all

theorem RawNote.code_le_of_wellFormed {notes : List RawNote} (h : notes.all RawNote.wellFormed = true) :
    ∀ n ∈ notes, n.code ≤ 3 := fun n hn => by
  have hn := List.all_eq_true.mp h n hn
  rw [RawNote.wellFormed_eq, decide_eq_true_eq] at hn
  exact hn.1

theorem lastTime_eq {notes : List RawNote} {last : RawNote} (h : notes.getLast? = some last) : lastTime notes = last.time := by
  rw [lastTime, h]
  rfl

/-- Settles O26: the request on its payload by the first check that fails, and a block taken by what joins, what is VOID and the
deadlines taken at joining, sealed by the feed before it. -/
theorem noteBlockJoinsALoadedStation : Obligations.NoteBlockJoinsALoadedStation := by
  unfold Obligations.NoteBlockJoinsALoadedStation
  intro tag station covered sent s hr hlo hhi notes hfit payload good
  have hgood : good = RawNote.wellFormed := funext fun n => (RawNote.wellFormed_eq n).symm
  have hcov : InTimeRange covered := ⟨hlo, hhi⟩
  refine ⟨fun hlen h => noteBlock_unknown hr hlen h, fun i hi => ?_⟩
  intro st f inside from_ refusal refused takes rising
  have ht (h : takes) : (s.play.station i).takesNotes = true := Station.takesNotes_eq_true h.1 h.2
  refine ⟨fun hlen h => noteBlock_busy hr hi hlen (Station.takesNotes_eq_false_of_not h),
    fun count hlen h hcount => noteBlock_wrongCount hr hi (ht h) hfit hlen hcount,
    fun kept more h1 h16 h hends hlow hhigh => noteBlock_uneven hr hi (ht h) hfit h1 h16 hends hlow hhigh,
    fun h1 h16 h => ?_⟩
  have fails {r : BlockRefusal} (hchecks : checkNotes st covered notes = some r) : refused r.status r.index :=
    noteBlock_refused hr hi (ht h) hcov hfit h1 h16 hchecks
  rw [hgood]
  refine ⟨fun front n back hnotes hfront hn => fails (r := ⟨.badNote, front.length⟩) ?_,
    fun front n back hnotes hform hfront hn => fails (r := ⟨.badLane, front.length⟩) ?_, fun hform hlanes =>
    ⟨fun front n back hnotes hrise hfront hn => fails (r := ⟨.order, front.length⟩) ?_, fun hrise hall last hlast => ?_⟩⟩
  · rw [hnotes]
    exact checkNotes_badNote (firstFail_append hfront hn)
  · refine checkNotes_badLane hform ?_
    rw [hnotes]
    exact firstFail_append hfront hn
  · refine checkNotes_order hform hlanes ?_
    rw [hnotes, orderFail_append hrise hfront hn, Nat.zero_add]
  · have hins : orderFail f.horizon f.tailTime 0 notes = none := orderFail_none hrise hall
    have htime : lastTime notes = last.time := lastTime_eq hlast
    rw [← htime]
    refine ⟨fun hc => fails (checkNotes_covered hform hlanes hins hc),
      fun hc hfull => fails (checkNotes_full hform hlanes hins hc h1 hfull), fun hc hroom => ?_⟩
    have hcheck := checkNotes_room hform hlanes hins hc hroom
    have hcode := RawNote.code_le_of_wellFormed hform
    refine ⟨fun hst => noteBlock_loaded hr hi (ht h) hcov hfit h1 h16 hcheck hcode hst, fun hst hfed => ?_⟩
    have hrun := noteBlock_running (tag := tag) hr hi (ht h) hcov hfit h1 h16 hcheck hst hfed
    dsimp only at hrun
    rw [Play.joinNotes_running hcode hst] at hrun
    exact hrun

end Sys2Proof.Machine

/-! ## Windows and the timeline stay in range (O57) -/

namespace Sys2Proof.Machine

/-! ### The settings of a station, which no settlement touches -/

/-- What a station holds that no edge and no deadline changes: its judge configuration, its lane mask and autoplay. -/
def Station.settings (st : Station) : JudgeConfig × Option LaneSet × Bool := (st.judge, st.laneMask, st.autoplay)

theorem StationMove.settings {table : PerResult ScoreRow} {st u : Station} (h : StationMove table st u) :
    u.settings = st.settings := by cases h <;> rfl

theorem PlayMove.settings {i : StationId} {p q : Play} (h : PlayMove i p q) (j : StationId) :
    (q.station j).settings = (p.station j).settings := by
  by_cases hj : j = i
  · subst hj
    cases h with
    | report | lamps => rfl
    | station f hf => rw [Play.station_modStation]; exact hf.settings
    | clear => rw [Play.station_autoStop, Play.station_finish]; rfl
    | fail =>
      rw [Play.failStation, Play.station_autoStop, Play.discardFinish_eq]
      rw [Play.station, Four.get_set_self]
      rfl
  · rw [(h.sameBut.others j hj).1]

theorem PlayMoves.settings {i : StationId} {p q : Play} (h : PlayMoves i p q) (j : StationId) :
    (q.station j).settings = (p.station j).settings :=
  h.keeps (P := fun q => (q.station j).settings = (p.station j).settings)
    (fun _ _ hm hp => (hm.settings j).trans hp) rfl

theorem PlayMoves.judge {i : StationId} {p q : Play} (h : PlayMoves i p q) (j : StationId) :
    (q.station j).judge = (p.station j).judge := congrArg Prod.fst (h.settings j)

/-! ### Judge configurations (R41, R42) -/

/-- Clamped settings whose windows increase are legal (R41, R42). -/
theorem judgeSettings_legal {f : JudgeFields} (h : (judgeSettings f).increasing = true) : (judgeSettings f).Legal := by
  simp only [JudgeConfig.increasing, Bool.and_eq_true, decide_eq_true_eq] at h
  obtain ⟨⟨⟨h12, h23⟩, h34⟩, h45⟩ := h
  have hlow : 1000 ≤ (judgeSettings f).w1 := le_max_left _ _
  have hhigh : (judgeSettings f).w5 ≤ 250000 := max_le (by decide) (min_le_left _ _)
  exact ⟨hlow, h12, h23, h34, h45, hhigh, le_max_left _ _, max_le (by decide) (min_le_left _ _), le_max_left _ _,
    max_le (by decide) (min_le_left _ _)⟩

/-- Every station's judge configuration is legal. -/
def Play.JudgesLegal (p : Play) : Prop := ∀ i, (p.station i).judge.Legal

namespace Play.JudgesLegal

variable {p q : Play} (h : p.JudgesLegal)

include h

theorem of_judges (hj : ∀ i, (q.station i).judge = (p.station i).judge) : q.JudgesLegal := fun i => by
  rw [hj]
  exact h i

theorem of_stations (hs : q.stations = p.stations) : q.JudgesLegal :=
  h.of_judges fun i => by rw [Play.station, hs]; rfl

theorem setStation (i : StationId) {u : Station} (hu : u.judge.Legal) : (p.setStation i u).JudgesLegal := fun j => by
  rw [Play.station, Play.setStation, Four.get_set]
  split <;> [exact hu; exact h j]

theorem configJudge {c : JudgeConfig} (hc : c.Legal) (is : List StationId) : (p.configJudge c is).JudgesLegal := by
  induction is generalizing p with
  | nil => exact h
  | cons i is ih => exact ih (h.setStation i hc)

theorem abortStations (is : List StationId) : (p.abortStations is).1.JudgesLegal := by
  have hafter : ∀ st : Station, st.afterAbort.judge = st.judge := fun st => by
    unfold Station.afterAbort
    cases st.state with
    | draining => dsimp only; split <;> rfl
    | idle | loaded | running | finished => rfl
  rw [Play.abortStations_eq]
  induction is generalizing p with
  | nil => exact h
  | cons i is ih =>
    refine ih fun j => ?_
    rw [Play.station_abortByRules]
    split <;> [exact hafter (p.station i) ▸ h i; exact h j]

theorem takeBlock (i : StationId) (down : Nine Bool) (covered : Int) (notes : List RawNote) :
    (p.takeBlock i down covered notes).JudgesLegal := by
  have hjoin : (p.joinNotes i notes).JudgesLegal := by
    rw [Play.joinNotes_eq]
    exact h.setStation i (h i)
  have hjoined := hjoin.of_judges (p.blockJoined_moves i down notes).judge
  rw [Play.takeBlock_eq]
  exact hjoined.setStation i (hjoined i)

theorem entered (start : Int) : (p.entered start).JudgesLegal := fun i => by
  rw [show (p.entered start).station i = (p.station i).enter from Four.get_map _ _ _]
  unfold Station.enter
  split <;> exact h i

end Play.JudgesLegal

/-- Every change a command makes keeps the judge configurations legal: CONFIG_JUDGE stores a legal one, and nothing else sets one. -/
theorem PlayChange.judgesLegal {p q : Play} (h : PlayChange p q) (hp : p.JudgesLegal) : q.JudgesLegal := by
  cases h with
  | settle i hm _ => exact hp.of_judges hm.judge
  | configJudge f named _ hw => exact hp.configJudge (judgeSettings_legal hw) named
  | load i | clear i | chartEnd i => exact hp.setStation i (hp i)
  | block i down covered notes _ _ => exact hp.takeBlock i down covered notes
  | abort named => exact (hp.abortStations named).of_judges fun i => by rw [Play.station_abortTests]
  | stopPlay _ => exact hp.abortStations _
  | start start | startPending start => exact hp.entered _
  | startLost start => exact Play.JudgesLegal.entered (p := p.sourceLoss) hp start
  | setLamps set f mode named _ => exact hp.of_stations (p.station_setLamps set mode named).1
  | resetPlay =>
    exact hp.of_judges fun i => by rw [show p.resetPlay.station i = .idle (p.station i).judge from Four.get_map _ _ _]; rfl
  | restart cause =>
    intro i
    rw [show (Play.reset cause).station i = .idle .default from Four.get_all _ _]
    decide
  | report | sendReport | clearLost | configReports | evaluate | flashTick | flashEnd | configScoring | configHolds
  | configTiming | stopWaiting | await | sourceLoss | sourceReturn | holdoverEdge | noteEdge | lossTick | accumulate
  | holdoverTick | setLock | step | afterStep => exact hp

/-! ### The timeline (R110 to R116) -/

/-- A 32-bit song time lies in the range of T. -/
theorem toInt_inTimeRange (b : BitVec 32) : InTimeRange b.toInt :=
  ⟨by have := b.le_toInt; omega, by have := b.toInt_lt; omega⟩

namespace Timeline.InRange

variable {tl : Timeline} (h : tl.InRange)

include h

/-- A stopped timeline holds T and R (R121). -/
theorem stopped : Timeline.InRange { tl with state := .stopped, pendingStart := none } := by
  obtain ⟨hlow, hhigh, hr, hrate, hrate', htol, htol', hbad, hrun, -⟩ := h
  exact ⟨hlow, hhigh, hr, hrate, hrate', htol, htol', hbad, hrun, fun _ hs => nomatch hs⟩

/-- A song's start sets T to its start and R to 0 (R119). -/
theorem startedAt {start : Int} (hs : InTimeRange start) : Timeline.InRange { tl with
    state := .running, t := start, r := 0, pendingStart := none, startTime := start, lock := .free, badAnchors := 0 } := by
  obtain ⟨-, -, hr, hrate, hrate', htol, htol', -, hrun, -⟩ := h
  exact ⟨hs.1, hs.2, Nat.zero_lt_of_lt hr, hrate, hrate', htol, htol', Nat.zero_le _, hrun, fun _ hs => nomatch hs⟩

/-- An advance of T is held at the top of its range (R111). -/
theorem advance (n : Nat) {r : Nat} (hr : r < tl.rate) : (tl.advance n r).InRange := by
  obtain ⟨hlow, hhigh, -, hrate, hrate', htol, htol', hbad, hrun, hstart⟩ := h
  unfold Timeline.advance Config.tMax
  split
  next => exact ⟨by dsimp only; omega, by dsimp only; omega, by dsimp only; omega, hrate, hrate', htol, htol', hbad, hrun, hstart⟩
  next hle => exact ⟨by dsimp only; omega, by dsimp only; omega, hr, hrate, hrate', htol, htol', hbad, hrun, hstart⟩

/-- The source monitor changes the source, R to 0, the edge run and its timer (R115, R116). -/
theorem monitored {source : Source} {run timer : Nat} {edge : Option Nat} (hrun : run ≤ 256) : Timeline.InRange { tl with
    source := source, r := 0, edgeRun := run, lossTimer := timer, lastEdge := edge } := by
  obtain ⟨hlow, hhigh, hr, hrate, hrate', htol, htol', hbad, -, hstart⟩ := h
  exact ⟨hlow, hhigh, Nat.zero_lt_of_lt hr, hrate, hrate', htol, htol', hbad, hrun, hstart⟩

end Timeline.InRange

/-- Aborts of stations, with their tests, keep the timeline or stop it (R12, R17). -/
theorem Play.abortTests_timeline (p : Play) : p.abortTests.timeline = p.timeline
    ∨ p.abortTests.timeline = { p.timeline with state := .stopped, pendingStart := none } := by
  rw [Play.abortTests_eq, Play.abortTestByRules]
  split <;> [exact .inr rfl; exact .inl rfl]

theorem Play.timeline_abortStations (p : Play) (is : List StationId) : (p.abortStations is).1.timeline = p.timeline := by
  obtain ⟨f, q, h⟩ := p.abortAll_frame is
  rw [Play.abortStations_eq, h]

theorem Play.timeline_configJudge (p : Play) (c : JudgeConfig) (is : List StationId) :
    (p.configJudge c is).timeline = p.timeline := by
  induction is generalizing p with
  | nil => rfl
  | cons i is ih => exact ih _

/-- A block's deadlines at joining keep the timeline, or stop it with the last station in play. -/
theorem Play.takeBlock_timeline (p : Play) (i : StationId) (down : Nine Bool) (covered : Int) (notes : List RawNote) :
    (p.takeBlock i down covered notes).timeline = p.timeline
      ∨ (p.takeBlock i down covered notes).timeline = { p.timeline with state := .stopped, pendingStart := none } := by
  have hmoves := (p.blockJoined_moves i down notes).any.timeline
  rw [Play.joinNotes_eq] at hmoves
  rw [Play.takeBlock_eq]
  exact hmoves

/-- Every change a command makes keeps the timeline within its ranges. -/
theorem PlayChange.timelineInRange {p q : Play} (h : PlayChange p q) (hp : p.timeline.InRange) : q.timeline.InRange := by
  have stops : ∀ {tl : Timeline}, tl = p.timeline ∨ tl = { p.timeline with state := .stopped, pendingStart := none } →
      tl.InRange := by
    rintro tl (rfl | rfl)
    · exact hp
    · exact hp.stopped
  obtain ⟨hlow, hhigh, hr, hrate, hrate', htol, htol', hbad, hrun, hstart⟩ := id hp
  cases h with
  | settle i hm _ => exact stops hm.any.timeline
  | block i down covered notes _ _ => exact stops (p.takeBlock_timeline i down covered notes)
  | abort named => exact stops (p.timeline_abortStations named ▸ Play.abortTests_timeline _)
  | stopWaiting _ => exact hp.stopped
  | stopPlay _ =>
    have ht : p.endPlay.timeline = p.timeline := p.timeline_abortStations _
    exact stops (.inr (ht ▸ rfl))
  | configJudge f named _ _ => exact stops (.inl (p.timeline_configJudge _ named))
  | setLamps set f mode named _ => exact stops (.inl (p.station_setLamps set mode named).2)
  | configTiming rate tolerance _ h1 h2 =>
    exact ⟨hlow, hhigh, by dsimp only [Play.timeline_modTimeline]; omega, h1, h2, le_max_left _ _,
      max_le (by decide) (min_le_left _ _), hbad, Nat.zero_le _, hstart⟩
  | await start =>
    refine ⟨hlow, hhigh, hr, hrate, hrate', htol, htol', hbad, hrun, fun x hx => ?_⟩
    obtain rfl := Option.some.inj hx
    exact toInt_inTimeRange start
  | start start => exact hp.startedAt (toInt_inTimeRange start)
  | startPending start _ hs => exact hp.startedAt (hstart start hs)
  | startLost start _ hs => exact Timeline.InRange.startedAt (hp.monitored (Nat.zero_le _)) (hstart start hs)
  | sourceLoss _ => exact hp.monitored (Nat.zero_le _)
  | sourceReturn now _ _ => exact hp.monitored (le_refl 256)
  | holdoverEdge now _ hlt =>
    exact ⟨hlow, hhigh, hr, hrate, hrate', htol, htol', hbad, (not_le.mp hlt).le, hstart⟩
  | accumulate _ => exact hp.advance _ (Nat.mod_lt _ (by omega))
  | holdoverTick _ => exact hp.advance 1 hr
  | setLock lock n hn => exact ⟨hlow, hhigh, hr, hrate, hrate', htol, htol', hn, hrun, hstart⟩
  | step target =>
    have ht := toInt_inTimeRange target
    exact ⟨ht.1, ht.2, Nat.zero_lt_of_lt hr, hrate, hrate', htol, htol', Nat.zero_le _, hrun, hstart⟩
  | resetPlay =>
    have hzero : InTimeRange 0 := by decide
    exact ⟨hzero.1, hzero.2, Nat.zero_lt_of_lt hr, hrate, hrate', htol, htol', Nat.zero_le _, hrun, fun _ hs => nomatch hs⟩
  | restart cause =>
    obtain ⟨-, -, hreset, -⟩ := resetMeetsTheInvariants
    exact hreset
  | report | sendReport | clearLost | configReports | evaluate | flashTick | flashEnd | configScoring | configHolds
  | load | clear | chartEnd | noteEdge | lossTick | afterStep => exact hp

/-- Settles O57: every step is a chain of changes of the play blocks, and each keeps the windows and the timeline in range. -/
theorem everyStepKeepsWindowsAndTimelineInRange : Obligations.EveryStepKeepsWindowsAndTimelineInRange :=
  fun _ _ hjudge hline h =>
    ⟨step_keeps_play (fun _ _ => PlayChange.judgesLegal) h hjudge,
      step_keeps_play (P := fun p => p.timeline.InRange) (fun _ _ => PlayChange.timelineInRange) h hline⟩

end Sys2Proof.Machine

/-! ## CONFIG_JUDGE (O19) -/

namespace Sys2Proof.Machine

theorem Play.station_configJudge (p : Play) (c : JudgeConfig) (is : List StationId) (j : StationId) :
    (p.configJudge c is).station j = if j ∈ is then { p.station j with judge := c } else p.station j := by
  induction is generalizing p with
  | nil => simp [Play.configJudge]
  | cons i is ih =>
    rw [Play.configJudge, ih]
    by_cases hj : j = i
    · subst hj; simp
    · simp [hj, p.station_modStation_ne _ hj]

/-- CONFIG_JUDGE changes the stations alone. -/
theorem Play.configJudge_frame (p : Play) (c : JudgeConfig) (is : List StationId) :
    { p.configJudge c is with stations := p.stations } = p := by
  induction is generalizing p with
  | nil => rfl
  | cons i is ih => exact congrArg (fun q : Play => { q with stations := p.stations }) (ih (p.modStation i _))

section

variable {sel : Byte} {f : JudgeFields} {s : State} {named : List StationId}

theorem ownConfigJudge_badArg (h : selected sel = none) : ownConfigJudge sel f s = (.refuse .badArg, s) := by
  simp only [ownConfigJudge, h]

theorem ownConfigJudge_busy (h : selected sel = some named) (hs : s.play.timeline.state ≠ .stopped) :
    ownConfigJudge sel f s = (.refuse .busy, s) := by
  simp only [ownConfigJudge, h, if_pos hs]

theorem ownConfigJudge_badWindows (h : selected sel = some named) (hs : s.play.timeline.state = .stopped)
    (hw : (judgeSettings f).increasing = false) : ownConfigJudge sel f s = (.refuse .badWindows, s) := by
  simp only [ownConfigJudge, h, if_neg (not_not.mpr hs), hw, Bool.not_false, if_true]

theorem ownConfigJudge_ok (h : selected sel = some named) (hs : s.play.timeline.state = .stopped)
    (hw : (judgeSettings f).increasing = true) : ownConfigJudge sel f s =
      (.okClamped (judgeClamped f) (judgeSettings f).bytes,
        s.modPlay fun p => p.configJudge (judgeSettings f) named) := by
  simp only [ownConfigJudge, h, if_neg (not_not.mpr hs), hw, Bool.not_true, Bool.false_eq_true, if_false]

end

theorem JudgeConfig.increasing_iff {c : JudgeConfig} :
    c.increasing = true ↔ c.w1 < c.w2 ∧ c.w2 < c.w3 ∧ c.w3 < c.w4 ∧ c.w4 < c.w5 := by
  simp [JudgeConfig.increasing, and_assoc]

/-- Settles O19: the three refusals in their order, and the settings stored where the selector names a station. -/
theorem configJudgeStoresTheWindows : Obligations.ConfigJudgeStoresTheWindows := by
  intro tag sel f s hr c
  refine ⟨fun h3 hff => next_answered hr (ownConfigJudge_badArg (selected_none h3 hff)), fun hsel hs => ?_,
    fun hsel hs hw => ?_, fun hsel hs h12 h23 h34 h45 => ?_⟩
  all_goals obtain ⟨named, hnamed, -, hmem⟩ := selected_some hsel
  · exact next_answered hr (ownConfigJudge_busy (s := s.counted) hnamed hs)
  · rw [← JudgeConfig.increasing_iff, Bool.not_eq_true] at hw
    exact next_answered hr (ownConfigJudge_badWindows (s := s.counted) hnamed hs hw)
  · refine ⟨s.modPlay fun p => p.configJudge c named, next_answered hr ?_, fun i => ?_,
      congrArg (fun p => { s with play := p }) (s.play.configJudge_frame c named)⟩
    · rw [ownConfigJudge_ok (s := s.counted) hnamed hs (JudgeConfig.increasing_iff.mpr ⟨h12, h23, h34, h45⟩),
        judgeClamped_eq]
      rfl
    · rw [State.play_modPlay, Play.station_configJudge]
      simp only [hmem]

end Sys2Proof.Machine

/-! ## Advances and steps of T (O34, O35, O36) -/

namespace Sys2Proof.Machine

/-! ### What an advance of T leaves -/

/-- Moves keep the scoring table, the grace and the roll gap. -/
theorem AnyMoves.part_settings {p q : Play} (h : AnyMoves p q) :
    q.scoring = p.scoring ∧ q.grace = p.grace ∧ q.rollGap = p.rollGap := by
  refine h.keeps (P := fun q => q.scoring = p.scoring ∧ q.grace = p.grace ∧ q.rollGap = p.rollGap)
    (fun _ q r hm hq => ?_) ⟨rfl, rfl, rfl⟩
  rw [hm.sameBut.scoring, hm.sameBut.grace, hm.sameBut.rollGap]
  exact hq

/-- Settlements leave a station that is not in play (R113). -/
theorem Play.settleStations_out {p : Play} {j : StationId} (h : (p.station j).inPlay = false) (down : Four (Nine Bool))
    (is : List StationId) : (p.settleStations down is).station j = p.station j := by
  induction is generalizing p with
  | nil => rfl
  | cons i is ih =>
    have hfirst : (if (p.station i).inPlay then p.settleStation i (down.get i) else p).station j = p.station j := by
      split
      next hi => exact ((p.settleStation_moves i _).sameBut.others j (by rintro rfl; rw [hi] at h; cases h)).1
      next => rfl
    rw [Play.settleStations, ih (by rw [hfirst]; exact h), hfirst]

theorem Play.settleAll_out {p : Play} {j : StationId} (h : (p.station j).inPlay = false) (down : Four (Nine Bool)) :
    (p.settleAll down).station j = p.station j := Play.settleStations_out h down stationIds

/-- Every station in play settled by its rows is an advance of T settled (R113; entry 9). -/
theorem State.settledByRows_eq {s : State} (hlive : s.live = true) :
    s.settledByRows = { s with play := s.play.settleAll s.downs } := State.foldSettled_eq hlive _

/-- An advance of T by running is settled by rows (R113). -/
theorem State.advanced_eq {s : State} (hlive : s.live = true) (f : Timeline → Timeline) :
    s.advanced f = State.settledByRows { s with play := s.play.modTimeline f } :=
  (State.settledByRows_eq (s := { s with play := s.play.modTimeline f }) hlive).symm

/-- An advance of T by running makes moves of the stations in play, and leaves all but the play blocks (R113). -/
theorem State.advanced_leaves (s : State) (f : Timeline → Timeline) : ∃ q, s.advanced f = { s with play := q }
    ∧ AnyMoves (s.play.modTimeline f) q ∧ ∀ i, (s.play.station i).inPlay = false → q.station i = s.play.station i :=
  ⟨(s.play.modTimeline f).settleAll s.downs, by rw [State.advanced], Play.settleAll_moves _ _,
    fun _ hi => by rw [Play.settleAll_out (by exact hi), Play.station_modTimeline]⟩

/-- T advances within its range, and stands at the top with R at 0 (R111). -/
theorem Timeline.advance_eq (tl : Timeline) (n r : Nat) : tl.advance n r =
    if tl.t + n ≤ 2147483647 then { tl with t := tl.t + n, r := r } else { tl with t := 2147483647, r := 0 } := by
  unfold Timeline.advance Config.tMax
  by_cases h : tl.t + n ≤ 2147483647
  · rw [if_neg (not_lt.mpr h), if_pos h]
  · rw [if_pos (not_le.mp h), if_neg h]

/-! ### AUDCLK_EDGE and HOLDOVER_TICK -/

theorem audclkEdge_stopped {s : State} (hx : s.play.timeline.source = .external) (hs : s.play.timeline.state = .stopped) :
    audclkEdge s = s.edgeNoted := by
  have hstate : (s.modPlay fun p => p.modTimeline (Timeline.noteEdge s.localTime)).play.timeline.state = .stopped := hs
  simp only [audclkEdge, hx, hstate, State.edgeNoted]

theorem audclkEdge_running {s : State} (hx : s.play.timeline.source = .external) (hs : s.play.timeline.state = .running) :
    audclkEdge s = s.edgeNoted.advanced Timeline.accumulate := by
  have hstate : (s.modPlay fun p => p.modTimeline (Timeline.noteEdge s.localTime)).play.timeline.state = .running := hs
  simp only [audclkEdge, hx, hstate, State.edgeNoted]

/-- Settles O35: the edge restarts the loss timer, and in RUNNING the advance of R112 is settled by rows. -/
theorem audclkEdgeAccumulatesSongTime : Obligations.AudclkEdgeAccumulatesSongTime := by
  intro s hlive hx tl gain edged advanced
  have hexec : exec .audclkEdge s = .next (audclkEdge s) := congrArg Host.Outcome.next (whenLive_live hlive)
  have hadvanced : edged.accumulate = advanced := edged.advance_eq _ _
  refine ⟨fun hs => ?_, fun hs => ?_⟩
  · rw [hexec, audclkEdge_stopped hx hs]
    rfl
  · obtain ⟨q, hq, hmoves, hout⟩ := s.edgeNoted.advanced_leaves Timeline.accumulate
    have hedge : audclkEdge s = { s with play := q } := (audclkEdge_running hx hs).trans hq
    have hline : q.timeline = advanced ∨ q.timeline = { advanced with state := .stopped, pendingStart := none } :=
      hadvanced ▸ hmoves.timeline
    have hframe : { advanced with state := tl.state, t := tl.t, r := tl.r, pendingStart := tl.pendingStart } = edged := by
      simp only [advanced]
      split <;> rfl
    obtain ⟨hscoring, hgrace, hgap⟩ := hmoves.part_settings
    refine ⟨{ s with play := q }, by rw [hexec, hedge], ?_, ?_, ?_, ?_, hscoring, hgrace, hgap, hout, rfl⟩
    · rw [← hedge, audclkEdge_running hx hs, State.advanced_eq (by exact hlive), ← hadvanced]
      rfl
    · rcases hline with h | h <;> rw [h]
    · rcases hline with h | h <;> rw [h]
    · rcases hline with h | h <;> rw [h] <;> exact hframe

/-- Settles O36: the tick's advance by 1 is settled by rows. -/
theorem holdoverTickAdvancesByOne : Obligations.HoldoverTickAdvancesByOne := by
  intro s hlive tl advanced
  have hexec : exec .holdoverTick s = .next (holdoverTick s) := congrArg Host.Outcome.next (whenLive_live hlive)
  refine ⟨fun h => ?_, fun hs hx => ?_⟩
  · have hnone : ¬ (s.play.timeline.state = .running ∧ s.play.timeline.source = .holdover) := by
      rintro ⟨hs, hx⟩
      exact h.elim (absurd hs) fun hext => nomatch hext.symm.trans hx
    rw [hexec, holdoverTick, if_neg hnone]
  · have htick : holdoverTick s = s.advanced fun tl => tl.advance 1 tl.r := if_pos ⟨hs, hx⟩
    have hadvanced : tl.advance 1 tl.r = advanced := tl.advance_eq 1 tl.r
    obtain ⟨q, hq, hmoves, hout⟩ := s.advanced_leaves fun tl => tl.advance 1 tl.r
    have hline : q.timeline = advanced ∨ q.timeline = { advanced with state := .stopped, pendingStart := none } :=
      hadvanced ▸ hmoves.timeline
    refine ⟨{ s with play := q }, by rw [hexec, htick, hq], ?_, ?_, ?_, hout, rfl⟩
    · rw [← hq, State.advanced_eq hlive, ← hadvanced]
      rfl
    · rcases hline with h | h <;> rw [h]
    · rcases hline with h | h <;> rw [h]

/-! ### A step of T -/

/-- The play blocks as a step to `target` makes them before it settles: T, R, the lock and the bad anchors, and the report (R124). -/
def Play.stepped (p : Play) (target amount : Int) : Play :=
  (p.modTimeline fun tl => { tl with t := target, r := 0, badAnchors := 0, lock := .locked }).reportTimeline .step
    (clampTime amount)

/-- A forward step settles what it reaches, with the after-step flag set for as long as that lasts; a backward one settles nothing
(R65, R125, R126). -/
theorem Play.step_eq (p : Play) (target amount : Int) (down : Four (Nine Bool)) : p.step target amount down =
    if amount > 0 then { ({ p.stepped target amount with afterStep := true } : Play).settleAll down with afterStep := false }
    else p.stepped target amount := rfl

/-- The timeline after a step: at its target, and stopped where the last station has left play by it (R17, R124). -/
theorem Play.step_timeline (p : Play) (target amount : Int) (down : Four (Nine Bool)) :
    (p.step target amount down).timeline = (p.stepped target amount).timeline ∨ (p.step target amount down).timeline
      = { (p.stepped target amount).timeline with state := .stopped, pendingStart := none } := by
  rw [Play.step_eq]
  generalize p.stepped target amount = q
  split
  next => exact (Play.settleAll_moves { q with afterStep := true } down).timeline
  next => exact .inl rfl

/-- A move of T changes no panel's being down. -/
theorem State.downs_moved (s : State) (p : Play) (amount : Int) : (s.moved p amount).downs = s.downs :=
  downs_movePanels amount s.panels

theorem State.settledByRows_moved {s : State} (hlive : s.live = true) (p : Play) (amount : Int) :
    (s.moved p amount).settledByRows = s.moved (p.settleAll s.downs) amount := by
  rw [State.settledByRows_eq (by exact hlive), State.downs_moved]
  rfl

theorem State.panelStation_moved (s : State) (p : Play) (amount : Int) (i : StationId) : (s.moved p amount).panelStation i
    = { s.panelStation i with panels := ((s.moved p amount).panelStation i).panels } := by
  simp only [State.panelStation, State.moved, movePanels, Four.get_map]

theorem stepTo_back {s : State} {target : Int} (h : target < s.play.timeline.t) : stepTo target s
    = s.moved (s.play.stepped target (target - s.play.timeline.t)) (target - s.play.timeline.t) := by
  have hneg : ¬ (target - s.play.timeline.t > 0) := by omega
  exact congrArg (s.moved · _) ((s.play.step_eq _ _ _).trans (if_neg hneg))

theorem stepTo_forward {s : State} (hlive : s.live = true) {target : Int} (h : s.play.timeline.t < target) :
    stepTo target s = State.modPlay (State.settledByRows
        ((s.moved (s.play.stepped target (target - s.play.timeline.t)) (target - s.play.timeline.t)).modPlay
          fun p => { p with afterStep := true }))
      fun p => { p with afterStep := false } := by
  have hpos : target - s.play.timeline.t > 0 := by omega
  have hstep := (s.play.step_eq target (target - s.play.timeline.t) s.downs).trans (if_pos hpos)
  generalize s.play.stepped target (target - s.play.timeline.t) = q at hstep ⊢
  have hmod : ∀ (r : Play) (b : Bool), (s.moved r (target - s.play.timeline.t)).modPlay (fun p => { p with afterStep := b })
      = s.moved { r with afterStep := b } (target - s.play.timeline.t) := fun _ _ => rfl
  rw [hmod, State.settledByRows_moved hlive, hmod, ← hstep]
  rfl

/-- The third bad anchor steps the timeline (R123, R124). -/
theorem ownAnchor_steps {time : BitVec 32} {s : State} (hs : s.play.timeline.state = .running)
    (htol : s.play.timeline.tolerance < (time.toInt - s.play.timeline.t).natAbs) (hbad : s.play.timeline.badAnchors = 2) :
    ownAnchor time s = (anchorAnswer (time.toInt - s.play.timeline.t) true (stepTo time.toInt s).play.timeline,
      stepTo time.toInt s) := by
  unfold ownAnchor
  dsimp only
  rw [if_neg (not_not.mpr hs), if_neg (not_le.mpr htol), if_neg (by omega)]

/-- Settles O34: the anchor's step, backward without a settlement and forward settled by rows. -/
theorem thirdBadAnchorStepsTheTimeline : Obligations.ThirdBadAnchorStepsTheTimeline := by
  intro tag time s hr hs hbad htol diff told
  have hline := s.play.step_timeline time.toInt diff s.downs
  have ht : (stepTo time.toInt s).play.timeline = (s.play.step time.toInt diff s.downs).timeline := rfl
  rw [← ht] at hline
  refine ⟨stepTo time.toInt s, s.moved (s.play.stepped time.toInt diff) diff, next_answered hr ?_, rfl,
    fun i => ⟨s.panelStation_moved _ diff i, fun j => s.panel_movePanels diff i j⟩, ?_, rfl, stepTo_back, stepTo_forward hr.1, ?_⟩
  · rw [ownAnchor_steps (s := s.counted) hs htol hbad]
    refine Prod.ext ?_ rfl
    change anchorAnswer diff true (stepTo time.toInt s).play.timeline = _
    rcases hline with h | h <;> rw [h] <;> rfl
  · change s.scanner.moveStamp diff = _
    unfold Scanner.moveStamp
    split <;> rfl
  · rcases hline with h | h <;> rw [h] <;> exact ⟨rfl, rfl, rfl, rfl, rfl⟩

end Sys2Proof.Machine

/-! ## A press and a release, by the rules (O44, O45, O50, O51) -/

namespace Sys2Proof.Machine

/-! ### The fixed families and the report queue -/

theorem Nine.set_set {α : Type} (f : Nine α) (j : PanelId) (a b : α) : (f.set j a).set j b = f.set j b :=
  Nine.eq_of_get fun k => by simp only [Nine.get_set]; split <;> rfl

theorem Nine.set_of_get {α : Type} {f : Nine α} {j : PanelId} {a : α} (h : f.get j = a) : f.set j a = f :=
  Nine.eq_of_get fun k => by
    rw [Nine.get_set]
    split
    next hk => rw [hk, h]
    next => rfl

theorem ReportQueue.pushAll_concat (q : ReportQueue) (rs : List Report) (r : Report) :
    (q.pushAll rs).push r = q.pushAll (rs ++ [r]) := (q.pushAll_append rs [r]).symm

/-! ### Mines and candidates of a press (R49, R51) -/

theorem touchMines_eq (c : JudgeConfig) (lane : PanelId) (t : Int) (queue : List NoteRecord) :
    touchMines c lane t queue = minesByRule c lane t queue := by
  refine List.map_congr_left fun n _ => ?_
  simp only [Bool.and_eq_true, decide_eq_true_eq, and_assoc]
  rfl

theorem length_minesByRule (c : JudgeConfig) (lane : PanelId) (t : Int) (queue : List NoteRecord) :
    (minesByRule c lane t queue).length = queue.length := List.length_map _

theorem isCandidate_eq (c : JudgeConfig) (lane : PanelId) (t : Int) :
    NoteRecord.isCandidate c lane t = candidateByRule c lane t := by
  funext n
  rw [Bool.eq_iff_iff]
  simp only [NoteRecord.isCandidate, candidateByRule, Bool.and_eq_true, Bool.not_eq_true', List.any_eq_false, beq_iff_eq,
    decide_eq_true_eq, and_assoc]
  rfl

/-- The record that takes a press is not a mine, and stands in the queue. -/
theorem findCandidate_some {c : JudgeConfig} {lane : PanelId} {t : Int} {queue : List NoteRecord} {k : Nat}
    (h : queue.findIdx? (candidateByRule c lane t) = some k) : ∃ n, queue[k]? = some n ∧ n.kind ≠ .mine := by
  obtain ⟨hk, hc, -⟩ := List.findIdx?_eq_some_iff_getElem.mp h
  have hkind := (of_decide_eq_true hc).1
  exact ⟨queue[k], List.getElem?_eq_getElem hk, hkind⟩

/-! ### The worst hit of a jump (R56) -/

/-- A hit of which no other in the list has a larger |delta|. -/
def LaneHit.isWorst (hits : List LaneHit) (h : LaneHit) : Bool := hits.all fun g => g.delta.natAbs ≤ h.delta.natAbs

theorem LaneHit.isWorst_iff {hits : List LaneHit} {h : LaneHit} :
    h.isWorst hits = true ↔ ∀ g ∈ hits, g.delta.natAbs ≤ h.delta.natAbs := by simp [LaneHit.isWorst]

/-- A hit that a later one exceeds is not the worst, and the worst of the others is the worst of all. -/
theorem isWorst_cons_of_not {hits : List LaneHit} {h : LaneHit} (hn : ¬ h.isWorst hits = true) (x : LaneHit) :
    x.isWorst (h :: hits) = x.isWorst hits := by
  rw [Bool.eq_iff_iff, LaneHit.isWorst_iff, LaneHit.isWorst_iff, List.forall_mem_cons, and_iff_right_iff_imp]
  intro hx
  simp only [LaneHit.isWorst_iff, not_forall, not_le] at hn
  obtain ⟨g, hg, hlt⟩ := hn
  exact hlt.le.trans (hx g hg)

/-- The worst hit is the first that none exceeds. -/
theorem worstHit_eq (hits : List LaneHit) :
    worstHit hits = ((hits.find? (LaneHit.isWorst hits)).map LaneHit.delta).getD 0 := by
  induction hits with
  | nil => rfl
  | cons h hs ih =>
    have hstep : worstHit (h :: hs) = if h.isWorst hs then h.delta else worstHit hs := rfl
    rw [hstep]
    by_cases hw : h.isWorst hs = true
    · have hall : h.isWorst (h :: hs) = true := LaneHit.isWorst_iff.mpr
        (List.forall_mem_cons.mpr ⟨le_rfl, LaneHit.isWorst_iff.mp hw⟩)
      rw [if_pos hw, List.find?_cons_of_pos hall]
      rfl
    · have hall : ¬ h.isWorst (h :: hs) = true := by rwa [isWorst_cons_of_not hw]
      rw [if_neg hw, ih, List.find?_cons_of_neg hall, funext (isWorst_cons_of_not hw)]

/-! ### Entries whose deadline is reached when they are set (R84, R86) -/

section

variable {p : Play} {i : StationId} {lane : PanelId} {e : HoldEntry}

theorem Play.settleReached_ahead (h : (p.station i).holds.get lane = some e) (hd : ∀ d ∈ e.deadline, p.time < d) :
    p.settleReached i lane = p := by
  unfold Play.settleReached
  simp only [h]
  cases hdl : e.deadline with
  | none => rfl
  | some d => exact if_neg (not_le.mpr (hd d hdl))

theorem Play.settleReached_due {d : Int} (h : (p.station i).holds.get lane = some e) (hd : e.deadline = some d)
    (hle : d ≤ p.time) : p.settleReached i lane
      = p.settleTail i lane (if e.effectiveEnd ≤ p.time ∧ e.effectiveEnd ≤ d then .held else .dropped) := by
  unfold Play.settleReached
  simp only [h, hd, if_pos hle]

end

section

variable (p : Play) (i : StationId)

theorem Play.setHold_eq (lane : PanelId) (e : Option HoldEntry) : p.setHold i lane e = p.put i
    { p.station i with holds := (p.station i).holds.set lane e } p.lamps p.reports := rfl

/-- A tail's settlement on a record put in, behind reports told before it (R85). -/
theorem Play.settleTail_put {u : Station} {lamps : Four (Nine Lamp)} {told : List Report} {lane : PanelId} {e : HoldEntry}
    (h : u.holds.get lane = some e) (r : Result) :
    (p.put i u lamps (p.reports.pushAll told)).settleTail i lane r = p.settlementByRules i
      { u with tally := u.tally.apply p.scoring r, holds := u.holds.set lane none }
      (Play.lampResult { p with lamps := lamps } i (LaneSet.single lane) r).lamps
      (told ++ [p.holdEndByRule i e.id lane r (u.tally.apply p.scoring r)]) := by
  unfold Play.settleTail
  simp only [Play.station_put, h]
  rw [Play.tailResult_put, Play.setHold_put, ReportQueue.pushAll_concat]
  exact Play.endTests_put p i _ _ _

/-! ### A release (R81, R86) -/

/-- A release taken by the hold table is that of the rules. -/
theorem Play.takeRelease_eq (lane : PanelId) (r : Int) : p.takeRelease i lane r = p.releaseByRules i lane r := by
  unfold Play.takeRelease Play.releaseByRules
  cases he : (p.station i).holds.get lane with
  | none => simp only [he]
  | some e =>
    cases hs : e.state with
    | letGo d => simp only [he, hs, reduceCtorEq, if_false]
    | rolling d => simp only [he, hs, reduceCtorEq, if_false]
    | holding =>
      have hrel : e.release p.grace r = { e with state := .letGo (r + p.grace) } := by simp only [HoldEntry.release, hs]
      have hget : ((p.setHold i lane (some (e.release p.grace r))).station i).holds.get lane
          = some { e with state := .letGo (r + p.grace) } := by simp [Play.setHold, hrel]
      simp only [he, hs, if_true]
      split
      next hlt =>
        have hahead : ∀ d ∈ HoldEntry.deadline { e with state := .letGo (r + p.grace) },
            (p.setHold i lane (some (e.release p.grace r))).time < d := by
          rintro d hd
          obtain rfl := Option.some.inj hd
          exact hlt
        rw [Play.settleReached_ahead hget hahead, hrel]
        rfl
      next hge =>
        rw [Play.settleReached_due hget rfl (not_lt.mp hge), Play.setHold_eq, hrel]
        have htail := Play.settleTail_put p i (told := []) (lamps := p.lamps)
          (u := { p.station i with
            holds := (p.station i).holds.set lane (some { e with state := .letGo (r + p.grace) }) })
          (Nine.get_set_self _ lane _) (if e.effectiveEnd ≤ p.timeline.t ∧ e.effectiveEnd ≤ r + p.grace then .held else .dropped)
        simp only [Nine.set_set] at htail
        exact htail

end

end Sys2Proof.Machine

namespace Sys2Proof.Machine

/-! ### A head that takes a press (R57, R76, R77) -/

section

variable (p : Play) (i : StationId) (st : Station) (k : Nat) (n : NoteRecord)

/-- A station whose head has been judged, its record gone from the queue (R57). -/
def Station.headGone (st : Station) (k : Nat) (w : Tally) : Station :=
  { st with tally := w, feed := { st.feed with queue := st.feed.queue.eraseIdx k } }

/-- A head that takes a press on a record put in: it fails its station, its end is reached, or it makes its entry. -/
theorem Play.pressHead_put (hlen : st.feed.queue.length = (p.station i).feed.queue.length) (lane : PanelId)
    (t d endTime : Int) (isRoll down : Bool) :
    let r := st.judge.grade d
    let w := st.tally.apply p.scoring r
    let head : Report := ⟨p.timeline.t, .judge i n.id n.lanes (.scored r) st.autoplay p.afterStep w.overUnits w.combo w.life
      w.score (some d)⟩
    let lamps := p.lampResult i n.lanes r
    let e := st.judge.effective endTime
    let gone := st.headGone k w
    (p.put i st p.lamps p.reports).pressHead i k n lane t d endTime isRoll down =
      if Station.Fails { st with tally := w } then p.settlementByRules i { st with tally := w } lamps.lamps [head]
      else if e ≤ p.timeline.t then
        p.settlementByRules i { gone with tally := w.apply p.scoring .held }
          (lamps.lampResult i (LaneSet.single lane) .held).lamps
          ([head, p.holdEndByRule i n.id lane .held (w.apply p.scoring .held)]
            ++ p.adviceByRule i { gone with tally := w.apply p.scoring .held })
      else (p.put i { gone with holds := st.holds.set lane (some (makeEntry p st n isRoll down t e)) } lamps.lamps
        (p.reports.pushAll ([head] ++ p.adviceByRule i gone))).settleReached i lane := by
  intro r w head lamps e gone
  have hfree : st.feed.free = (p.station i).feed.free := congrArg (Config.queueCapacity - ·) hlen
  unfold Play.pressHead
  dsimp only
  rw [Play.station_put, Play.giveResult_put, Play.reportJudge_put]
  simp only [Play.failing_put]
  by_cases hf : Station.Fails { st with tally := w }
  · rw [if_pos hf, if_pos hf, Play.fail_put, Play.settlementByRules_eq, if_pos hf]
    rfl
  · rw [if_neg hf, if_neg hf, Play.removeRecord_put, Play.station_put, Play.time_put]
    by_cases he : e ≤ p.timeline.t
    · rw [if_pos he, if_pos (by exact he), Play.tailResult_put, hfree]
      exact Play.closeSettlement_put p i _ _ [head, p.holdEndByRule i n.id lane .held (w.apply p.scoring .held)]
    · rw [if_neg he, if_neg (by exact he), Play.setHold_put, hfree, Play.afterLeaving]
      have hfeed := Play.feedTest_put p i
        { gone with holds := st.holds.set lane (some (makeEntry p st n isRoll down t e)) } lamps.lamps
        (p.reports.push head) hf
      refine (congrArg (fun q => (q.drainTest i).settleReached i lane) hfeed).trans ?_
      rw [Play.drainTest_holding]
      · rfl
      · rw [Play.station_put]
        exact noNotes_of_hold (lane := lane) (by simp)

/-- The deadline a head's entry is made with: a ROLL's, a HOLD's on a lane that is up, and none on a lane that is down (R79, R80). -/
theorem makeEntry_deadline (isRoll down : Bool) (t e : Int) : (makeEntry p st n isRoll down t e).deadline
    = if isRoll then some (t + p.rollGap) else if down then none else some (t + p.grace) := by
  cases isRoll <;> cases down <;> rfl

/-- The entry a head makes is that of the rules. -/
theorem makeEntry_eq (isRoll down : Bool) (t e : Int) : makeEntry p st n isRoll down t e =
    { id := n.id
      effectiveEnd := e
      state := match (if isRoll then some (t + p.rollGap) else if down then none else some (t + p.grace) : Option Int) with
        | none => .holding
        | some d => if isRoll then .rolling d else .letGo d
      nextPress := if st.autoplay = true ∧ isRoll = true ∧ t + (p.rollGap / 2 : Nat) < e
        then some (t + (p.rollGap / 2 : Nat)) else none } := by
  unfold makeEntry nextRollPress
  cases isRoll with
  | true => cases hauto : st.autoplay <;> simp [entryState]
  | false => cases down <;> simp [entryState]

/-- An entry put on a free lane: a deadline already reached settles it DROPPED, its end lying ahead; else it stands (R86). -/
theorem Play.enterHold_put {gone : Station} {lamps : Four (Nine Lamp)} {told : List Report} {lane : PanelId}
    {entry : HoldEntry} (hlane : gone.holds.get lane = none) (hfail : ¬ gone.Fails)
    (hend : p.timeline.t < entry.effectiveEnd) :
    (p.put i { gone with holds := gone.holds.set lane (some entry) } lamps (p.reports.pushAll told)).settleReached i lane =
      if ∃ d ∈ entry.deadline, d ≤ p.timeline.t then
        p.settlementByRules i { gone with tally := gone.tally.apply p.scoring .dropped }
          (Play.lampResult { p with lamps := lamps } i (LaneSet.single lane) .dropped).lamps
          (told ++ [p.holdEndByRule i entry.id lane .dropped (gone.tally.apply p.scoring .dropped)])
      else p.settlementByRules i { gone with holds := gone.holds.set lane (some entry) } lamps told := by
  have hget : ((p.put i { gone with holds := gone.holds.set lane (some entry) } lamps (p.reports.pushAll told)).station i
      ).holds.get lane = some entry := by simp
  by_cases hdue : ∃ d ∈ entry.deadline, d ≤ p.timeline.t
  · obtain ⟨d, hd, hle⟩ := id hdue
    have hahead : ¬ (entry.effectiveEnd ≤ p.timeline.t ∧ entry.effectiveEnd ≤ d) := fun h => absurd h.1 (not_le.mpr hend)
    rw [if_pos hdue, Play.settleReached_due hget hd hle, Play.time_put, if_neg hahead,
      Play.settleTail_put p i (Nine.get_set_self _ lane _) .dropped]
    simp only [Nine.set_set, Nine.set_of_get hlane]
  · have hclears : ¬ Station.Clears { gone with holds := gone.holds.set lane (some entry) } p.timeline.t := by
      rintro ⟨-, -, hnone, -⟩
      simpa using hnone lane
    simp only [not_exists, not_and, not_le] at hdue
    rw [if_neg (by simpa using hdue), Play.settleReached_ahead hget hdue, Play.settlementByRules_eq, if_neg hfail,
      if_neg hclears]

/-- A head that takes a press is judged by the rules (R57, R76, R77, R79, R80, R86). -/
theorem Play.pressHead_eq (hlen : st.feed.queue.length = (p.station i).feed.queue.length)
    (hauto : st.autoplay = (p.station i).autoplay) {lane : PanelId} (hlane : st.holds.get lane = none) (t endTime : Int)
    (isRoll down : Bool) :
    (p.put i st p.lamps p.reports).pressHead i k n lane t (t - st.judge.effective n.time) endTime isRoll down
      = p.headByRules i st k n lane t endTime isRoll down := by
  rw [Play.pressHead_put _ _ _ _ _ hlen]
  unfold Play.headByRules Play.judgeByRule
  dsimp only
  rw [← hauto]
  by_cases hfail : Station.Fails { st with tally := st.tally.apply p.scoring (st.judge.grade (t - st.judge.effective n.time)) }
  · exact (if_pos hfail).trans (if_pos hfail).symm
  · refine (if_neg hfail).trans (Eq.trans ?_ (if_neg hfail).symm)
    by_cases hend : st.judge.effective endTime ≤ p.timeline.t
    · exact (if_pos hend).trans (if_pos hend).symm
    · refine (if_neg hend).trans (Eq.trans ?_ (if_neg hend).symm)
      refine (Play.enterHold_put p i (gone := st.headGone k _) hlane hfail (not_le.mp hend)).trans ?_
      rw [makeEntry_deadline, makeEntry_eq]
      rfl

end

end Sys2Proof.Machine

namespace Sys2Proof.Machine

/-! ### A TAP that takes a press, and the search (R51 to R56) -/

section

variable (p : Play) (i : StationId) (st : Station) (k : Nat) (n : NoteRecord)

/-- A TAP's or jump's settlement on a record put in is that of the rules (R54, R58, R59). -/
theorem Play.settleTap_put (hlen : st.feed.queue.length = (p.station i).feed.queue.length)
    (hauto : st.autoplay = (p.station i).autoplay) (r : Result) (d : Option Int) :
    let w := st.tally.apply p.scoring r
    (p.put i st p.lamps p.reports).settleTap i k n r d = p.settlementByRules i (st.headGone k w)
      (p.lampResult i n.lanes r).lamps ([p.judgeByRule i n r w d] ++ p.adviceByRule i (st.headGone k w)) := by
  intro w
  have hfree : st.feed.free = (p.station i).feed.free := congrArg (Config.queueCapacity - ·) hlen
  unfold Play.settleTap Play.judgeByRule
  rw [Play.station_put, Play.removeRecord_put, Play.giveResult_put, Play.reportJudge_put, hfree, ← hauto]
  exact Play.closeSettlement_put p i (st.headGone k w) _ [_]

/-- Every lane of a jump is hit (R55). -/
theorem allHit_iff {m : LaneSet} {hits : List LaneHit} : ((LaneSet.lanes m).all fun q => hits.any fun h => h.lane == q) = true
    ↔ ∀ l : PanelId, LaneSet.has m l = true → ∃ h ∈ hits, h.lane = l := by
  simp [LaneSet.mem_lanes]

theorem Play.updateRecord_put (lamps : Four (Nine Lamp)) (q : ReportQueue) {f : NoteRecord → NoteRecord}
    (hk : st.feed.queue[k]? = some n) : (p.put i st lamps q).updateRecord i k f
      = p.put i { st with feed := { st.feed with queue := st.feed.queue.set k (f n) } } lamps q := by
  rw [Play.updateRecord, Play.modStation_put, modify_eq_set hk]

/-- A TAP or jump that takes a press is judged by the rules: its last lane settles it with the worst hit (R54 to R56). -/
theorem Play.pressTap_put (hlen : st.feed.queue.length = (p.station i).feed.queue.length)
    (hauto : st.autoplay = (p.station i).autoplay) (hk : st.feed.queue[k]? = some n) (lane : PanelId) (d : Int) :
    let hits := n.laneHits ++ [{ lane := lane, delta := d }]
    let worst := ((hits.find? (LaneHit.isWorst hits)).map LaneHit.delta).getD 0
    let r := st.judge.grade worst
    let w := st.tally.apply p.scoring r
    (p.put i st p.lamps p.reports).pressTap i k n lane d =
      if ∀ l : PanelId, LaneSet.has n.lanes l = true → ∃ h ∈ hits, h.lane = l then
        p.settlementByRules i (st.headGone k w) (p.lampResult i n.lanes r).lamps
          ([p.judgeByRule i n r w (some worst)] ++ p.adviceByRule i (st.headGone k w))
      else p.put i { st with feed := { st.feed with queue := st.feed.queue.set k { n with laneHits := hits } } } p.lamps
        p.reports := by
  intro hits worst r w
  simp only [Play.pressTap, allHit_iff, worstHit_eq, Play.station_put]
  exact if_congr Iff.rfl (p.settleTap_put i st k n hlen hauto r (some worst)) (p.updateRecord_put i st k n _ _ hk)

theorem Play.stray_put (lamps : Four (Nine Lamp)) (q : ReportQueue) : (p.put i st lamps q).stray i = p.put i
    { st with tally := { st.tally with
      strays := if st.feed.starved then st.tally.strays else min 65535 (st.tally.strays + 1) } } lamps q := by
  rw [Play.stray, Play.modStation_put]
  by_cases hs : st.feed.starved = true
  · rw [if_pos hs, if_pos hs]
  · rw [if_neg hs, if_neg hs]; rfl

/-- A station after the mine step of a press (R49). -/
def Station.minesTouched (st : Station) (lane : PanelId) (t : Int) : Station :=
  { st with feed := { st.feed with queue := minesByRule st.judge lane t st.feed.queue } }

theorem Play.minesTouched_eq (lane : PanelId) (t : Int) : (p.modStation i fun st =>
    { st with feed := { st.feed with queue := touchMines st.judge lane t st.feed.queue } })
    = p.put i ((p.station i).minesTouched lane t) p.lamps p.reports := by
  simp only [touchMines_eq]
  rfl

/-- An offered press is taken by the rules: the mines, the hold table, the search (R49 to R57, R82). -/
theorem Play.takePress_eq (lane : PanelId) (t : Int) (down : Nine Bool) :
    p.takePress i lane t down = p.pressByRules i lane t ((p.station i).laneDown down lane) := by
  have hlen : ((p.station i).minesTouched lane t).feed.queue.length = (p.station i).feed.queue.length :=
    length_minesByRule _ _ _ _
  unfold Play.takePress Play.pressByRules
  rw [Play.minesTouched_eq]
  dsimp only
  rw [Play.station_put, show ((p.station i).minesTouched lane t).holds = (p.station i).holds from rfl]
  cases hlane : (p.station i).holds.get lane with
  | some e =>
    simp only
    rw [Play.setHold_put]
    obtain ⟨id, e, state, next⟩ := e
    cases state <;> rfl
  | none =>
    simp only
    unfold Play.pressSearch findCandidate
    dsimp only
    rw [Play.station_put, isCandidate_eq]
    dsimp only [Station.minesTouched]
    cases hfind : (minesByRule (p.station i).judge lane t (p.station i).feed.queue).findIdx?
        (candidateByRule (p.station i).judge lane t) with
    | none => exact p.stray_put i ((p.station i).minesTouched lane t) _ _
    | some k =>
      obtain ⟨n, hn, hmine⟩ := findCandidate_some hfind
      simp only [hn]
      cases hkind : n.kind with
      | mine => exact absurd hkind hmine
      | hold e => exact p.pressHead_eq i ((p.station i).minesTouched lane t) k n hlen rfl hlane t e false _
      | roll e => exact p.pressHead_eq i ((p.station i).minesTouched lane t) k n hlen rfl hlane t e true _
      | tap =>
        have htap := p.pressTap_put i ((p.station i).minesTouched lane t) k n hlen rfl hn lane
          (t - (p.station i).judge.effective n.time)
        simp only [hkind] at htap
        exact htap

end

end Sys2Proof.Machine

/-! ## A physical edge, and the rows of a panel (O50, O51) -/

namespace Sys2Proof.Machine

/-! ### An edge offered to the judge (R47, R48, R73) -/

/-- The conditions on a physical edge (R47, R48). -/
abbrev Station.Hears (st : Station) (lane : PanelId) : Prop :=
  (st.state = .running ∨ st.state = .draining) ∧ LaneSet.has st.mask lane = true ∧ st.autoplay = false

theorem Station.offered_physical {st : Station} {lane : PanelId} : st.offered lane false = true ↔ st.Hears lane := by
  rw [Station.offered_iff, Station.inPlay_iff, eq_comm (a := false)]

section

variable (p : Play) (i : StationId) (lane : PanelId) (stamp : Int)

/-- A physical press is offered by the rules: the judge's view of the lane is its panel (R46, R47). -/
theorem Play.offerPress_physical (down : Nine Bool) : p.offerPress i lane stamp false down =
    if (p.station i).Hears lane then
      p.pressByRules i lane (max (p.timeline.t - 2000) (min p.timeline.t stamp)) (down.get lane)
    else p := by
  unfold Play.offerPress
  simp only [Station.offered_physical]
  by_cases h : (p.station i).Hears lane
  · obtain ⟨-, -, hauto⟩ := id h
    have hdown : (p.station i).laneDown down lane = down.get lane := by simp [Station.laneDown, hauto]
    rw [if_pos h, if_pos h, Play.takePress_eq, hdown]
    rfl
  · rw [if_neg h, if_neg h]

theorem Play.offerRelease_physical : p.offerRelease i lane stamp false =
    if (p.station i).Hears lane then p.releaseByRules i lane (max (p.timeline.t - 2000) (min p.timeline.t stamp))
    else p := by
  unfold Play.offerRelease
  simp only [Station.offered_physical, Play.takeRelease_eq]
  rfl

end

/-! ### The delivery of an edge (R149, R155) -/

section

variable (s : State) (i : StationId) (j : PanelId)

/-- The play blocks after the report of an edge, where the station's press reports are on (R155, R187). -/
def Play.edgeTold (p : Play) (i : StationId) (body : ReportBody) : Play :=
  if p.reports.pressEnables.get i then { p with reports := p.reports.push ⟨p.timeline.t, body⟩ } else p

theorem Play.edgeTold_frame (p : Play) (body : ReportBody) :
    (p.edgeTold i body).station i = p.station i ∧ (p.edgeTold i body).timeline = p.timeline := by
  unfold Play.edgeTold
  split <;> exact ⟨rfl, rfl⟩

theorem reportEdge_press (stamp : Int) :
    reportEdge i j (.press stamp) s = { s with play := s.play.edgeTold i (.press i j stamp) } := by
  unfold reportEdge Play.edgeTold
  split <;> rfl

theorem reportEdge_release (stamp : Int) :
    reportEdge i j (.release stamp) s = { s with play := s.play.edgeTold i (.release i j stamp) } := by
  unfold reportEdge Play.edgeTold
  split <;> rfl

theorem State.down_eq : (s.downs.get i).get j = (s.panel i j).isDown := by
  rw [State.downs, Four.get_map, PanelStation.downs, Nine.get_map]
  rfl

/-- A press edge's part in occupancy, where the play blocks have come to `q` at the same T (R157). -/
theorem arrive_eq {q : Play} (hq : q.timeline.t = s.play.timeline.t) : arrive i { s with play := q } = { s with
    play := if (s.panelStation i).occupied = false ∧ (s.panelStation i).armed = true then
        { q with reports := q.reports.push ⟨s.play.timeline.t, .presence i false⟩ }
      else q
    panels := s.panels.set i { s.panelStation i with
      occupied := true, occupancyTimer := 0, armed := (s.panelStation i).armed && (s.panelStation i).occupied } } := by
  unfold arrive
  simp only [Bool.and_eq_true, Bool.not_eq_true', ← hq]
  by_cases h : (s.panelStation i).occupied = false ∧ (s.panelStation i).armed = true
  · rw [if_pos h]
    exact if_pos h
  · rw [if_neg h]
    exact if_neg h

/-- A delivery of an edge is that of the rules: its report, the judge, occupancy (R149, R155). -/
theorem deliverEdge_eq (e : Edge) : deliverEdge i j e s = s.edgeByRules i j e := by
  have hcarried : ∀ stamp, s.play.edgeStamp stamp = match s.play.timeline.state with
      | .running => stamp
      | .stopped => s.play.timeline.t
      | .starting => s.play.timeline.t := fun stamp => by
    unfold Play.edgeStamp
    cases s.play.timeline.state <;> rfl
  cases e with
  | press stamp =>
    obtain ⟨hst, hline⟩ := s.play.edgeTold_frame i (.press i j (s.play.edgeStamp stamp))
    have htime := (Play.offerPress_moves (s.play.edgeTold i (.press i j (s.play.edgeStamp stamp))) i j
      (s.play.edgeStamp stamp) false (s.downs.get i)).time
    unfold deliverEdge Edge.given occupyEdge judgeEdge
    dsimp only
    rw [reportEdge_press]
    refine (arrive_eq s i (htime.trans (congrArg Timeline.t hline))).trans ?_
    rw [Play.offerPress_physical, hst, hline, State.down_eq]
    simp only [hcarried]
    unfold State.edgeByRules
    dsimp only
    simp only [decide_eq_true_eq]
    rfl
  | release stamp =>
    obtain ⟨hst, hline⟩ := s.play.edgeTold_frame i (.release i j (s.play.edgeStamp stamp))
    unfold deliverEdge Edge.given occupyEdge judgeEdge
    dsimp only
    rw [reportEdge_release]
    simp only [State.modPlay, Play.offerRelease_physical, hst, hline]
    simp only [hcarried]
    unfold State.edgeByRules
    dsimp only
    simp only [decide_eq_true_eq]
    rfl
end

/-! ### The rows of a panel -/

theorem deliver_confirmPress (p : Panel) (i : StationId) (j : PanelId) (stamp : Int) (s : State) :
    deliver i j (p.confirmPress stamp).edge s = s.edgeByRules i j (.press stamp) := deliverEdge_eq s i j (.press stamp)

theorem deliver_confirmRelease (p : Panel) (i : StationId) (j : PanelId) (stamp : Int) (s : State) :
    deliver i j (p.confirmRelease stamp).edge s = s.edgeByRules i j (.release stamp) :=
  deliverEdge_eq s i j (.release stamp)

/-- A panel that becomes STUCK gives its FAULT report before its release edge (R151). -/
theorem becomeStuck_eq (i : StationId) (j : PanelId) (stamp : Int) (s : State) :
    becomeStuck i j stamp s = State.edgeByRules i j (.release stamp)
      { s.setPanel i j { s.panel i j with state := .stuck 0, stuckTimer := 0, stuckLatch := true } with
        play := { s.play with
          reports := s.play.reports.push ⟨s.play.timeline.t, .fault i j.val .panelStuck⟩ } } :=
  deliverEdge_eq (State.report (s.setPanel i j
    { s.panel i j with state := .stuck 0, stuckTimer := 0, stuckLatch := true }) _) i j (.release stamp)

section

variable {i : StationId} {j : PanelId} {s : State} (hlive : s.live = true)
include hlive

theorem exec_pressConfirm : exec (.pressConfirm i j) s = .next (pressConfirm i j s) :=
  congrArg _ (whenLive_live hlive)

theorem exec_releaseConfirm : exec (.releaseConfirm i j) s = .next (releaseConfirm i j s) :=
  congrArg _ (whenLive_live hlive)

theorem exec_stuckExit : exec (.stuckExit i j) s = .next (stuckExit i j s) := congrArg _ (whenLive_live hlive)

theorem exec_panelStuck : exec (.panelStuck i j) s = .next (panelStuck i j s) := congrArg _ (whenLive_live hlive)

end

section

variable {i : StationId} {j : PanelId} {s : State}

/-- A press run that the present scan does not complete (R147). -/
theorem pressConfirm_not_due
    (hrun : ∀ stamp count, (s.panel i j).state = .pressing stamp count → count + 1 < (s.panel i j).config.dOn)
    (hfirst : (s.panel i j).state = .released → 1 < (s.panel i j).config.dOn) : pressConfirm i j s = s := by
  unfold pressConfirm
  dsimp only
  split
  · exact if_neg (Nat.not_le.2 (hfirst ‹_›))
  · exact if_neg (Nat.not_le.2 (hrun _ _ ‹_›))
  · rfl

/-- A release run that the present scan does not complete (R148). -/
theorem releaseConfirm_not_due
    (hrun : ∀ stamp count, (s.panel i j).state = .releasing stamp count → count + 1 < (s.panel i j).config.dOff)
    (hfirst : (s.panel i j).state = .pressed → 1 < (s.panel i j).config.dOff) : releaseConfirm i j s = s := by
  unfold releaseConfirm
  dsimp only
  split
  · exact if_neg (Nat.not_le.2 (hfirst ‹_›))
  · exact if_neg (Nat.not_le.2 (hrun _ _ ‹_›))
  · rfl

/-- An exit count that the present scan does not complete (R152). -/
theorem stuckExit_not_due
    (hrun : ∀ count, (s.panel i j).state = .stuck count → count + 1 < (s.panel i j).config.dOff) :
    stuckExit i j s = s := by
  unfold stuckExit
  dsimp only
  split
  · exact if_neg (Nat.not_le.2 (hrun _ ‹_›))
  · rfl

/-- PANEL_STUCK is due where the timer runs and this scan brings it to the stuck time (R150, R151). -/
theorem stuckRuns_and_stuckDue_iff : (stuckRuns i j s && stuckDue (s.panel i j)) = true ↔
    (s.panel i j).isDown = true ∧ (s.play.station i).holds.get j = none
      ∧ (s.panel i j).config.stuckTime * 1000000 ≤ (s.panel i j).stuckTimer + 250 := by
  simp only [stuckRuns, stuckDue, timerStep, Config.scanPeriod, Bool.and_eq_true, Option.isNone_iff_eq_none,
    decide_eq_true_eq, ge_iff_le, and_assoc]

end

/-- Settles O50: the row's edge is delivered by the rules of an edge. -/
theorem pressConfirmMakesThePanelPressed : Obligations.PressConfirmMakesThePanelPressed := by
  intro i j s hlive
  dsimp only
  rw [exec_pressConfirm hlive]
  refine ⟨fun stamp count hstate hcount => congrArg _ ?run, fun hstate hfirst => congrArg _ ?first,
    fun hrun hfirst => congrArg _ (pressConfirm_not_due hrun hfirst)⟩
  case run =>
    unfold pressConfirm
    simp only [hstate, if_pos hcount]
    exact deliver_confirmPress _ i j _ _
  case first =>
    unfold pressConfirm
    simp only [hstate, if_pos hfirst]
    exact deliver_confirmPress _ i j _ _

/-- Settles O51: each row's edge, where it gives one, is delivered by the rules of an edge. -/
theorem panelsAreReleasedAndStuck : Obligations.PanelsAreReleasedAndStuck := by
  intro i j s hlive
  dsimp only
  rw [exec_releaseConfirm hlive, exec_stuckExit hlive, exec_panelStuck hlive, ← stuckRuns_and_stuckDue_iff]
  refine ⟨fun stamp count hstate hcount => congrArg _ ?run, fun hstate hfirst => congrArg _ ?first,
    fun hrun hfirst => congrArg _ (releaseConfirm_not_due hrun hfirst),
    fun count hstate hcount => congrArg _ ?exit, fun hrun => congrArg _ (stuckExit_not_due hrun),
    fun hdue => congrArg _ ?stuck, fun hdue => congrArg _ (if_neg hdue)⟩
  case run =>
    unfold releaseConfirm
    simp only [hstate, if_pos hcount]
    exact deliver_confirmRelease _ i j _ _
  case first =>
    unfold releaseConfirm
    simp only [hstate, if_pos hfirst]
    exact deliver_confirmRelease _ i j _ _
  case exit =>
    unfold stuckExit
    simp only [hstate, if_pos hcount]
  case stuck =>
    exact (if_pos hdue).trans (becomeStuck_eq i j _ s)

end Sys2Proof.Machine

/-! ## The synthetic edges of autoplay (O44, O45) -/

namespace Sys2Proof.Machine

/-! ### Stamps (R70, R73) -/

/-- A stamp within 2,000 µs below T is offered as it stands. -/
theorem offeredStamp_of_mem {t stamp : Int} (hlow : t - 2000 ≤ stamp) (hhigh : stamp ≤ t) :
    offeredStamp t stamp = stamp := by
  unfold offeredStamp clampInt Config.settleMargin
  omega

/-- The stamp of a synthetic edge called for at `v`: within 2,000 µs below T, where `v` is reached (R70). -/
theorem lateStamp_mem {t v : Int} (h : v ≤ t) : t - 2000 ≤ lateStamp t v ∧ lateStamp t v ≤ t := by
  unfold lateStamp Config.settleMargin
  split <;> omega

/-- The deadline taken next is one of the rules', and T has reached it (R45). -/
theorem Play.nextDue_reached {p : Play} {i : StationId} {d : Due} (h : p.nextDue i = some d) :
    p.DueByRules i d ∧ d.1 ≤ p.time := by
  obtain ⟨hmem, htime, -⟩ := (lowestReachedDeadlineIsTakenNext p i).2.1 d h
  exact ⟨((p.mem_dues_iff i d).mp hmem).2, htime⟩

section

variable {p : Play} {i : StationId} {lane : PanelId} {stamp : Int}

/-! ### A synthetic edge offered (R47, R48) -/

theorem Station.offered_synthetic {st : Station} (hauto : st.autoplay = true) :
    st.offered lane true = true ↔ st.inPlay = true ∧ LaneSet.has st.mask lane = true := by
  rw [Station.offered_iff, hauto, eq_self, and_true]

/-- The judge's view of an autoplay station's lane is its synthetic panel (R46). -/
theorem Play.offerPress_synthetic (hauto : (p.station i).autoplay = true) (hplay : (p.station i).inPlay = true)
    (hdown : ((p.station i).synth.get lane).pressed = true) (hlow : p.time - 2000 ≤ stamp) (hhigh : stamp ≤ p.time)
    (down : Nine Bool) : p.offerPress i lane stamp true down =
      if LaneSet.has (p.station i).mask lane = true then p.pressByRules i lane stamp true else p := by
  have hview : (p.station i).laneDown down lane = true := by simp [Station.laneDown, hauto, hdown]
  unfold Play.offerPress
  simp only [Station.offered_synthetic hauto, hplay, true_and, offeredStamp_of_mem hlow hhigh, Play.takePress_eq, hview]

theorem Play.offerRelease_synthetic (hauto : (p.station i).autoplay = true) (hplay : (p.station i).inPlay = true)
    (hlow : p.time - 2000 ≤ stamp) (hhigh : stamp ≤ p.time) : p.offerRelease i lane stamp true =
      if LaneSet.has (p.station i).mask lane = true then p.releaseByRules i lane stamp else p := by
  unfold Play.offerRelease
  simp only [Station.offered_synthetic hauto, hplay, true_and, offeredStamp_of_mem hlow hhigh, Play.takeRelease_eq]

/-! ### Synthetic presses (R68, R69) -/

/-- A lane is pressed by autoplay, its release pending at the later of the pending one and `release` (R68). -/
def Station.synthPressed (st : Station) (lane : PanelId) (release : Int) : Station :=
  { st with synth := st.synth.set lane ⟨true, some (laterRelease (st.synth.get lane).pendingRelease release)⟩ }

/-- A synthetic press on one lane by the rules, offered on the lanes of `mask`. -/
def Play.synthPressByRules (i : StationId) (mask : LaneSet) (stamp release : Int) (p : Play) (lane : PanelId) : Play :=
  if (p.station i).inPlay = true then
    let pressed := p.setStation i ((p.station i).synthPressed lane release)
    if LaneSet.has mask lane = true then pressed.pressByRules i lane stamp true else pressed
  else p

theorem Play.synthPress_eq (hauto : (p.station i).autoplay = true) (hlow : p.time - 2000 ≤ stamp)
    (hhigh : stamp ≤ p.time) (release : Int) (down : Nine Bool) :
    p.synthPress i lane stamp release down = p.synthPressByRules i (p.station i).mask stamp release lane := by
  unfold Play.synthPress Play.synthPressByRules
  by_cases hplay : (p.station i).inPlay = true
  · have hst : (p.setStation i ((p.station i).synthPressed lane release)).station i
        = (p.station i).synthPressed lane release := Play.station_setStation _ _ _
    rw [if_pos hplay, if_pos hplay]
    refine (Play.offerPress_synthetic (p := p.setStation i ((p.station i).synthPressed lane release))
      (hst.symm ▸ hauto) (hst.symm ▸ hplay) ?_ hlow hhigh down).trans ?_
    · rw [hst, Station.synthPressed, Nine.get_set_self]
    · rw [hst]
      rfl
  · rw [if_neg hplay, if_neg hplay]

/-- The synthetic presses of a note are those of the rules, lane by lane: none changes the mask, autoplay or T. -/
theorem Play.synthPresses_eq (release : Int) (down : Nine Bool) (lanes : List PanelId)
    (hauto : (p.station i).autoplay = true) (hlow : p.time - 2000 ≤ stamp) (hhigh : stamp ≤ p.time) :
    p.synthPresses i stamp release down lanes
      = lanes.foldl (Play.synthPressByRules i (p.station i).mask stamp release) p := by
  induction lanes generalizing p with
  | nil => rfl
  | cons lane lanes ih =>
    have hmoves := p.synthPress_moves i lane stamp release down
    have htime := hmoves.time
    have hset := hmoves.settings i
    have hmask : ((p.synthPress i lane stamp release down).station i).mask = (p.station i).mask :=
      congrArg (fun c => c.2.1.getD 0) hset
    have hauto' : ((p.synthPress i lane stamp release down).station i).autoplay = true :=
      (congrArg (fun c => c.2.2) hset).trans hauto
    rw [Play.synthPresses, ih hauto' (htime.symm ▸ hlow) (htime.symm ▸ hhigh), hmask,
      Play.synthPress_eq hauto hlow hhigh]
    rfl

end

/-! ### SYNTHETIC_PRESS (R69 to R71) -/

/-- A press is made where T lies no more than 2,000 µs or no more than W5 past the note (R70, entry 38). -/
theorem synthStamp_made {c : JudgeConfig} {t e : Int} (h : t - e ≤ 2000 ∨ t - e ≤ c.w5) :
    synthStamp c t e = some (lateStamp t e) := by
  cases hs : synthStamp c t e with
  | none =>
    obtain ⟨h1, h2⟩ := synthStamp_none.mp hs
    omega
  | some x => exact congrArg some (synthStamp_some hs)

section

variable {p : Play} {i : StationId} {k : Nat} {n : NoteRecord}

/-- The note's record is marked: its press has been taken (R69). -/
def Play.pressMarked (p : Play) (i : StationId) (k : Nat) (n : NoteRecord) : Play :=
  p.setStation i { p.station i with
    feed := { (p.station i).feed with queue := (p.station i).feed.queue.set k { n with pressTaken := true } } }

theorem Play.station_pressMarked : (p.pressMarked i k n).station i = { p.station i with
    feed := { (p.station i).feed with queue := (p.station i).feed.queue.set k { n with pressTaken := true } } } :=
  Play.station_setStation _ _ _

variable (hn : (p.station i).feed.queue[k]? = some n)
include hn

theorem Play.updateRecord_pressTaken : (p.updateRecord i k fun n => { n with pressTaken := true })
    = p.pressMarked i k n := by
  simp only [Play.updateRecord, Play.modStation, modify_eq_set hn, Play.pressMarked]

/-- Too late for a press, a note's record is only marked (R70). -/
theorem Play.pressNote_late (hlate : synthStamp (p.station i).judge p.time ((p.station i).judge.effective n.time) = none)
    (down : Nine Bool) : p.pressNote i k n down = p.pressMarked i k n := by
  unfold Play.pressNote
  dsimp only
  rw [Play.updateRecord_pressTaken hn]
  simp only [show (p.pressMarked i k n).time = p.time from rfl, hlate]

/-- A note's press is made on each of its lanes by the rules (R69). -/
theorem Play.pressNote_made {stamp : Int} (hauto : (p.station i).autoplay = true)
    (hmade : synthStamp (p.station i).judge p.time ((p.station i).judge.effective n.time) = some stamp)
    (hlow : p.time - 2000 ≤ stamp) (hhigh : stamp ≤ p.time) (down : Nine Bool) : p.pressNote i k n down =
      (LaneSet.lanes n.lanes).foldl (Play.synthPressByRules i (p.station i).mask stamp
        (synthRelease (p.station i).judge p.rollGap stamp n.kind)) (p.pressMarked i k n) := by
  have hst := Play.station_pressMarked (p := p) (i := i) (k := k) (n := n)
  have hmask : ((p.pressMarked i k n).station i).mask = (p.station i).mask := by rw [hst]; rfl
  have hauto' : ((p.pressMarked i k n).station i).autoplay = true := by rw [hst]; exact hauto
  unfold Play.pressNote
  dsimp only
  rw [Play.updateRecord_pressTaken hn]
  simp only [show (p.pressMarked i k n).time = p.time from rfl, hmade]
  rw [Play.synthPresses_eq _ down _ hauto' hlow hhigh, hmask]
  rfl

end

/-- Settles O44: the lanes of the note are pressed in turn, each by the rules of a press. -/
theorem syntheticPressPressesTheLanes : Obligations.SyntheticPressPressesTheLanes := by
  intro i s v k n hlive hdue hn
  obtain ⟨⟨hauto, n', hn', -, -, hv⟩, hreached⟩ := Play.nextDue_reached hdue
  obtain rfl : n = n' := Option.some.inj (hn.symm.trans hn')
  have hrow : exec (.syntheticPress i) s = .next { s with play := s.play.pressNote i k n (s.downs.get i) } := by
    have h := exec_rowOf hlive hdue
    simp only [Play.takeDue, Play.withRecord, hn] at h
    exact h
  have hpast : n.time + (s.play.station i).judge.offset ≤ s.play.timeline.t := le_of_eq_of_le hv.symm hreached
  dsimp only
  rw [hrow]
  refine ⟨fun hlate => ?late, fun hsoon => ?made⟩
  case late => rw [Play.pressNote_late hn (synthStamp_none.mpr hlate)]; rfl
  case made =>
    obtain ⟨hlow, hhigh⟩ := lateStamp_mem hpast
    rw [Play.pressNote_made hn hauto (synthStamp_made hsoon) hlow hhigh]
    refine congrArg (fun press => Host.Outcome.next { s with
      play := (LaneSet.lanes n.lanes).foldl press (s.play.pressMarked i k n) }) (funext₂ fun q lane => ?_)
    unfold Play.synthPressByRules Station.synthPressed laterRelease synthRelease
    cases n.kind <;> rfl

end Sys2Proof.Machine

namespace Sys2Proof.Machine

theorem Play.setStation_setStation (p : Play) (i : StationId) (st u : Station) :
    (p.setStation i st).setStation i u = p.setStation i u := by
  unfold Play.setStation
  rw [Four.set_set]

/-! ### SYNTHETIC_RELEASE and ROLL_PRESS (R71, R81, R82, R86) -/

section

variable {p : Play} {i : StationId} {lane : PanelId} {v : Int}

/-- A lane's pending release lifts its synthetic panel, and the release is taken by the rules on a lane of the mask. -/
theorem Play.releaseLane_eq (hauto : (p.station i).autoplay = true) (hplay : (p.station i).inPlay = true)
    (hv : v ≤ p.time) : p.releaseLane i lane v =
      let lifted := p.setStation i { p.station i with synth := (p.station i).synth.set lane ⟨false, none⟩ }
      if LaneSet.has (p.station i).mask lane = true then lifted.releaseByRules i lane (lateStamp p.time v)
      else lifted := by
  obtain ⟨hlow, hhigh⟩ := lateStamp_mem hv
  have hst : (p.modStation i fun st => { st with synth := st.synth.set lane .released }).station i
      = { p.station i with synth := (p.station i).synth.set lane .released } := Play.station_modStation _ _ _
  refine (Play.offerRelease_synthetic (p := p.modStation i fun st => { st with synth := st.synth.set lane .released })
    (hst.symm ▸ hauto) (hst.symm ▸ hplay) hlow hhigh).trans ?_
  rw [hst]
  rfl

/-- A press by the rules on a lane whose roll is under way. -/
theorem Play.pressByRules_rolling {e : HoldEntry} {d : Int} (he : (p.station i).holds.get lane = some e)
    (hroll : e.state = .rolling d) (t : Int) (down : Bool) : p.pressByRules i lane t down = p.setStation i { p.station i with
      feed := { (p.station i).feed with queue := minesByRule (p.station i).judge lane t (p.station i).feed.queue }
      holds := (p.station i).holds.set lane (some { e with state := .rolling (t + p.rollGap) }) } := by
  unfold Play.pressByRules
  simp only [he, hroll]

/-- What a synthetic press makes of a station whose roll `e` is under way on the lane: the lane is pressed, the mines in reach are
touched, the roll is renewed to `deadline`. -/
def Station.rollRenewed (st : Station) (lane : PanelId) (stamp release deadline : Int) (e : HoldEntry) : Station :=
  { st.synthPressed lane release with
    feed := { st.feed with queue := minesByRule st.judge lane stamp st.feed.queue }
    holds := st.holds.set lane (some { e with state := .rolling deadline }) }

/-- A synthetic press on a lane of the mask whose roll is under way. -/
theorem Play.synthPress_rolling {stamp d : Int} {e : HoldEntry} (hauto : (p.station i).autoplay = true)
    (hplay : (p.station i).inPlay = true) (hmask : LaneSet.has (p.station i).mask lane = true)
    (he : (p.station i).holds.get lane = some e) (hroll : e.state = .rolling d) (hlow : p.time - 2000 ≤ stamp)
    (hhigh : stamp ≤ p.time) (release : Int) (down : Nine Bool) : p.synthPress i lane stamp release down
      = p.setStation i ((p.station i).rollRenewed lane stamp release (stamp + p.rollGap) e) := by
  have hst : (p.setStation i ((p.station i).synthPressed lane release)).station i
      = (p.station i).synthPressed lane release := Play.station_setStation _ _ _
  rw [Play.synthPress_eq hauto hlow hhigh, Play.synthPressByRules, if_pos hplay]
  dsimp only
  rw [if_pos hmask, Play.pressByRules_rolling (by rw [hst]; exact he) hroll, Play.setStation_setStation, hst]
  rfl

/-- A roll press on a lane of the mask schedules the next one and renews the roll (R71, R82). -/
theorem Play.pressRoll_eq {e : HoldEntry} {d : Int} (hauto : (p.station i).autoplay = true)
    (hplay : (p.station i).inPlay = true) (hmask : LaneSet.has (p.station i).mask lane = true) (hv : v ≤ p.time)
    (he : (p.station i).holds.get lane = some e) (hroll : e.state = .rolling d) (down : Nine Bool) :
    p.pressRoll i lane v down = p.setStation i ((p.station i).rollRenewed lane (lateStamp p.time v)
      (lateStamp p.time v + (p.rollGap / 4 : Nat)) (lateStamp p.time v + p.rollGap)
      { e with nextPress := nextRollPress p.rollGap (lateStamp p.time v) e.effectiveEnd }) := by
  obtain ⟨hlow, hhigh⟩ := lateStamp_mem hv
  unfold Play.pressRoll
  simp only [he]
  generalize lateStamp p.time v = stamp at hlow hhigh
  generalize hnext : ({ e with nextPress := nextRollPress p.rollGap stamp e.effectiveEnd } : HoldEntry) = scheduled
  have hst : (p.setHold i lane (some scheduled)).station i
      = { p.station i with holds := (p.station i).holds.set lane (some scheduled) } := Play.station_modStation _ _ _
  have hget : ((p.setHold i lane (some scheduled)).station i).holds.get lane = some scheduled := by
    rw [hst]
    exact Nine.get_set_self _ _ _
  have hscheduled : scheduled.state = .rolling d := by rw [← hnext]; exact hroll
  rw [Play.synthPress_rolling (by rw [hst]; exact hauto) (by rw [hst]; exact hplay) (by rw [hst]; exact hmask) hget
    hscheduled hlow hhigh, hst, Play.setHold, Play.modStation, Play.setStation_setStation]
  simp only [Station.rollRenewed, Station.synthPressed, Nine.set_set]
  rfl

end

/-- Settles O45: a release by the rules of a release; a roll press by those of a press on a roll under way. -/
theorem syntheticReleaseAndRollPress : Obligations.SyntheticReleaseAndRollPress := by
  refine ⟨fun i s v lane hlive hdue => ?release, fun i s v d lane e hlive hdue he hroll hmask => ?roll⟩
  case release =>
    obtain ⟨⟨hauto, -⟩, hv⟩ := Play.nextDue_reached hdue
    refine (exec_rowOf hlive hdue).trans ?_
    exact congrArg (fun q => Host.Outcome.next { s with play := q })
      (Play.releaseLane_eq hauto (Play.inPlay_of_nextDue _ _ hdue) hv)
  case roll =>
    obtain ⟨⟨hauto, -⟩, hv⟩ := Play.nextDue_reached hdue
    have hpress := Play.pressRoll_eq hauto (Play.inPlay_of_nextDue _ _ hdue) hmask hv he hroll (s.downs.get i)
    refine ⟨_, (exec_rowOf hlive hdue).trans (congrArg (fun q => Host.Outcome.next { s with play := q }) hpress), ?_⟩
    dsimp only
    rw [Play.station_setStation]
    exact ⟨rfl, rfl, rfl, rfl, rfl, rfl⟩

end Sys2Proof.Machine

/-! ## CONFIG_HOLDS and CONFIG_SCORING (O20) -/

namespace Sys2Proof.Machine

/-- The clamped flag of CONFIG_HOLDS, by the ranges of R91. -/
theorem holdsClamped_eq (grace gap : Nat) :
    ((setting 0 500000 grace).clamped || (setting 50000 1000000 gap).clamped)
      = decide (500000 < grace ∨ gap < 50000 ∨ 1000000 < gap) := by
  rw [setting_clamped (by decide), setting_clamped (by decide), ← Bool.decide_or]
  simp only [Nat.not_lt_zero, false_or]

section

variable {s : State} (grace gap : BitVec 32) (rows : PerResult ScoreField)

theorem ownConfigHolds_busy (hs : s.play.timeline.state ≠ .stopped) :
    ownConfigHolds grace gap s = (.refuse .busy, s) := if_pos hs

theorem ownConfigScoring_busy (hs : s.play.timeline.state ≠ .stopped) :
    ownConfigScoring rows s = (.refuse .busy, s) := if_pos hs

theorem ownConfigHolds_ok (hs : s.play.timeline.state = .stopped) : ownConfigHolds grace gap s =
    (.okClamped (decide (500000 < grace.toNat ∨ gap.toNat < 50000 ∨ 1000000 < gap.toNat))
        (leBytes 4 (min 500000 grace.toNat) ++ leBytes 4 (max 50000 (min 1000000 gap.toNat))),
      s.modPlay fun p =>
        { p with grace := min 500000 grace.toNat, rollGap := max 50000 (min 1000000 gap.toNat) }) := by
  simp only [ownConfigHolds, if_neg (not_not.mpr hs), holdsClamped_eq, setting_value, Nat.zero_max]

theorem ownConfigScoring_ok (hs : s.play.timeline.state = .stopped) : ownConfigScoring rows s =
    (.okClamped (rows.toList.any scoreRowClamped) (scoringBytes (rows.map scoreRow)),
      s.modPlay fun p => { p with scoring := rows.map scoreRow }) := if_neg (not_not.mpr hs)

end

/-- Settles O20: both requests refuse while the timeline is not STOPPED; else each stores its clamped values alone. -/
theorem configHoldsAndScoringStore : Obligations.ConfigHoldsAndScoringStore := by
  refine fun tag grace gap rows s hr => ⟨fun hs => ⟨?holdsBusy, ?scoringBusy⟩, fun hs => ⟨?holdsOk, ?scoringOk⟩⟩
  case holdsBusy => exact next_answered hr (ownConfigHolds_busy (s := s.counted) grace gap hs)
  case scoringBusy => exact next_answered hr (ownConfigScoring_busy (s := s.counted) rows hs)
  case holdsOk => exact next_answered hr (ownConfigHolds_ok (s := s.counted) grace gap hs)
  case scoringOk =>
    refine ⟨s.modPlay fun p => { p with scoring := rows.map scoreRow }, next_answered hr ?_,
      fun r => PerResult.get_map rows scoreRow r, rfl⟩
    rw [ownConfigScoring_ok (s := s.counted) rows hs, funext scoreRowClamped_eq]
    rfl

end Sys2Proof.Machine

/-! ## Tallies stay within their ranges (O56) -/

namespace Sys2Proof.Machine

/-! ### What each count and gauge can become -/

/-- A raised count saturates (R93). -/
theorem satAdd_le (count n : Nat) : satAdd count n ≤ 65535 := min_le_left _ _

theorem voidsAfter_le {voids : Nat} (h : voids ≤ 65535) (k : Nat) : voidsAfter voids k ≤ 65535 := by
  unfold voidsAfter
  split <;> [exact h; exact min_le_left _ _]

/-- A combo rises by saturation, is broken or stands (R99). -/
theorem comboAfter_le {combo : Nat} (r : Result) (h : combo ≤ 65535) : comboAfter r combo ≤ 65535 := by
  cases r with
  | crisp | solid | fair | held => exact satAdd_le _ _
  | loose | poor | miss | dropped => exact Nat.zero_le _
  | mineHit | mineAvoided => exact h

/-- Life is held at the top of its range, whatever the delta (R100). -/
theorem lifeAfter_le (delta : Int) (life : Nat) : lifeAfter delta life ≤ 1000 := by
  unfold lifeAfter clampInt Config.lifeMax
  omega

/-- The normalized score of E is at most the full score: E is taken against M only while it does not exceed it (R103). -/
theorem normalized_le (e m : Nat) : normalized e m ≤ 1000000 := by
  unfold normalized
  split
  next => exact Nat.zero_le _
  next =>
    split
    next h => exact Nat.div_le_of_le_mul (by rw [Nat.mul_comm m]; exact Nat.mul_le_mul_left _ h)
    next => exact le_rfl

/-! ### The tally -/

theorem Tally.zero_bounded : Tally.zero.Bounded :=
  ⟨fun r => by rw [show Tally.zero.counts = .all 0 from rfl, PerResult.get_all]; exact Nat.zero_le _, by decide⟩

namespace Tally.Bounded

variable {t : Tally} (h : t.Bounded)

include h

/-- A result raises its own count, and leaves points, combo, life and score in their ranges (R97 to R103). -/
theorem apply (scoring : PerResult ScoreRow) (r : Result) : (t.apply scoring r).Bounded := by
  obtain ⟨hcounts, hvoids, hstrays, hdiscarded, -, hunits, hcombo, hmax, -, -⟩ := h
  refine ⟨fun q => ?count, hvoids, hstrays, hdiscarded, min_le_left _ _, hunits, le_max_right _ _,
    max_le hmax (comboAfter_le r (hcombo.trans hmax)), lifeAfter_le _ _, normalized_le _ _⟩
  case count =>
    rw [Tally.apply, PerResult.get_set]
    split <;> [exact satAdd_le _ _; exact hcounts q]

theorem setVoids {n : Nat} (hn : n ≤ 65535) : Tally.Bounded { t with voids := n } := by
  obtain ⟨hcounts, -, hrest⟩ := h
  exact ⟨hcounts, hn, hrest⟩

theorem setStrays {n : Nat} (hn : n ≤ 65535) : Tally.Bounded { t with strays := n } := by
  obtain ⟨hcounts, hvoids, -, hrest⟩ := h
  exact ⟨hcounts, hvoids, hn, hrest⟩

theorem setDiscarded {n : Nat} (hn : n ≤ 65535) : Tally.Bounded { t with discarded := n } := by
  obtain ⟨hcounts, hvoids, hstrays, -, hrest⟩ := h
  exact ⟨hcounts, hvoids, hstrays, hn, hrest⟩

end Tally.Bounded

/-! ### A station's record -/

theorem StationMove.tallyBounded {table : PerResult ScoreRow} {st u : Station} (h : StationMove table st u)
    (ht : st.tally.Bounded) : u.tally.Bounded := by
  cases h with
  | result r => exact ht.apply table r
  | stray => exact ht.setStrays (satAdd_le _ _)
  | void => exact ht.setVoids (satAdd_le _ _)
  | queue | starve | hold | unhold | synth | unsynth => exact ht

/-- What a station holds is discarded into a saturating count (R10). -/
theorem Station.tallyBounded_afterDiscard {st : Station} (h : st.tally.Bounded) (o : SongOutcome) :
    (st.afterDiscard o).tally.Bounded := h.setDiscarded (min_le_left _ _)

theorem Station.tallyBounded_afterAbort {st : Station} (h : st.tally.Bounded) : st.afterAbort.tally.Bounded := by
  have hgone := Station.tallyBounded_afterDiscard h .aborted
  unfold Station.afterAbort
  cases st.state with
  | idle | finished => exact h
  | loaded | running => exact hgone
  | draining => dsimp only; split <;> [exact h; exact hgone]

/-- A loaded station's tally is at zero but for its units and its start life, both clamped (R1, R2). -/
theorem Station.tallyBounded_load (c : JudgeConfig) (mask : LaneSet) (units life : Nat) (autoplay failEnable : Bool) :
    (Station.load c mask (setting 0 Config.unitsMax units).value (setting 1 Config.lifeMax life).value autoplay
      failEnable).tally.Bounded := by
  obtain ⟨hcounts, hvoids, hstrays, hdiscarded, hpoints, -, hcombo, hmax, -, hscore⟩ := Tally.zero_bounded
  exact ⟨hcounts, hvoids, hstrays, hdiscarded, hpoints, max_le (Nat.zero_le _) (min_le_left _ _), hcombo, hmax,
    max_le (by decide) (min_le_left _ _), hscore⟩

theorem Station.tally_enter (st : Station) : st.enter.tally = st.tally := by
  unfold Station.enter
  split <;> rfl

/-! ### The play blocks -/

theorem PlayMove.tallyBounded {i : StationId} {p q : Play} (h : PlayMove i p q) (ht : (p.station i).tally.Bounded) :
    (q.station i).tally.Bounded := by
  cases h with
  | report | lamps => exact ht
  | station f hf => rw [Play.station_modStation]; exact hf.tallyBounded ht
  | clear => rw [Play.station_autoStop, Play.station_finish]; exact ht
  | fail =>
    rw [Play.failStation, Play.station_autoStop, Play.discardFinish_eq, Play.station, Four.get_set_self]
    exact Station.tallyBounded_afterDiscard ht .failed

/-- Every station's tally is within its ranges. -/
def Play.TalliesBounded (p : Play) : Prop := ∀ i, (p.station i).tally.Bounded

namespace Play.TalliesBounded

variable {p q : Play} (h : p.TalliesBounded)

include h

theorem of_tallies (ht : ∀ i, (q.station i).tally = (p.station i).tally) : q.TalliesBounded := fun i => by
  rw [ht]
  exact h i

theorem setStation (i : StationId) {u : Station} (hu : u.tally.Bounded) : (p.setStation i u).TalliesBounded := fun j => by
  rw [Play.station, Play.setStation, Four.get_set]
  split <;> [exact hu; exact h j]

/-- The moves of a station keep its own tally in range, and leave the others as they were. -/
theorem moves {i : StationId} (hm : PlayMoves i p q) : q.TalliesBounded := fun j => by
  by_cases hj : j = i
  · subst hj
    exact hm.keeps (P := fun q => (q.station j).tally.Bounded) (fun _ _ => PlayMove.tallyBounded) (h j)
  · rw [(hm.sameBut.others j hj).1]
    exact h j

theorem configJudge (c : JudgeConfig) (is : List StationId) : (p.configJudge c is).TalliesBounded := by
  induction is generalizing p with
  | nil => exact h
  | cons i is ih => exact ih (h.setStation i (h i))

theorem abortStations (is : List StationId) : (p.abortStations is).1.TalliesBounded := by
  rw [Play.abortStations_eq]
  induction is generalizing p with
  | nil => exact h
  | cons i is ih =>
    refine ih fun j => ?_
    rw [Play.station_abortByRules]
    split <;> [exact Station.tallyBounded_afterAbort (h i); exact h j]

/-- A block counts its VOID notes; what is taken at joining is moves of its station, and H touches no tally (R30, R31, R64). -/
theorem takeBlock (i : StationId) (down : Nine Bool) (covered : Int) (notes : List RawNote) :
    (p.takeBlock i down covered notes).TalliesBounded := by
  have hjoin : (p.joinNotes i notes).TalliesBounded := by
    have hvoids : (p.station i).tally.voids ≤ 65535 := by
      obtain ⟨-, hvoids, -⟩ := h i
      exact hvoids
    rw [Play.joinNotes_eq]
    exact h.setStation i ((h i).setVoids (voidsAfter_le hvoids _))
  have hjoined := hjoin.moves (p.blockJoined_moves i down notes)
  rw [Play.takeBlock_eq]
  exact hjoined.setStation i (hjoined i)

theorem entered (start : Int) : (p.entered start).TalliesBounded :=
  h.of_tallies fun i => by
    rw [show (p.entered start).station i = (p.station i).enter from Four.get_map _ _ _, Station.tally_enter]

end Play.TalliesBounded

/-- Every change a command makes keeps the tallies in range: a settlement by its moves, a load, a clearing and a reset by the
values they set, an abort by its discarded count, a block by its VOID count. -/
theorem PlayChange.talliesBounded {p q : Play} (h : PlayChange p q) (hp : p.TalliesBounded) : q.TalliesBounded := by
  cases h with
  | settle i hm _ => exact hp.moves hm
  | configJudge f named _ _ => exact hp.configJudge _ named
  | load i mask units life => exact hp.setStation i (Station.tallyBounded_load _ _ _ _ _ _)
  | clear i => exact hp.setStation i Tally.zero_bounded
  | chartEnd i => exact hp.setStation i (hp i)
  | block i down covered notes _ _ => exact hp.takeBlock i down covered notes
  | abort named => exact (hp.abortStations named).of_tallies fun i => by rw [Play.station_abortTests]
  | stopPlay _ => exact hp.abortStations _
  | start start | startPending start => exact hp.entered _
  | startLost start => exact Play.TalliesBounded.entered (p := p.sourceLoss) hp start
  | setLamps set f mode named _ =>
    exact hp.of_tallies fun i => by rw [Play.station, (p.station_setLamps set mode named).1]; rfl
  | resetPlay =>
    intro i
    rw [show p.resetPlay.station i = .idle (p.station i).judge from Four.get_map _ _ _]
    exact Tally.zero_bounded
  | restart cause =>
    intro i
    rw [show (Play.reset cause).station i = .idle .default from Four.get_all _ _]
    exact Tally.zero_bounded
  | report | sendReport | clearLost | configReports | evaluate | flashTick | flashEnd | configScoring | configHolds
  | configTiming | stopWaiting | await | sourceLoss | sourceReturn | holdoverEdge | noteEdge | lossTick | accumulate
  | holdoverTick | setLock | step | afterStep => exact hp

/-- Settles O56: every step is a chain of changes of the play blocks, and each change keeps every tally within its ranges. -/
theorem everyStepKeepsTheTalliesBounded : Obligations.EveryStepKeepsTheTalliesBounded :=
  fun _ _ hs h => step_keeps_play (P := Play.TalliesBounded) (fun _ _ => PlayChange.talliesBounded) h hs

end Sys2Proof.Machine

/-! ## The requests that only read (O15) -/

namespace Sys2Proof.Machine

/-! ### The fixed families in order -/

theorem Nine.flatMap_toList {α β : Type} (f : Nine α) (g : α → List β) :
    f.toList.flatMap g = panelIds.flatMap fun j => g (f.get j) := List.flatMap_map f.get g panelIds

theorem Four.flatMap_toList {α β : Type} (f : Four α) (g : α → List β) :
    f.toList.flatMap g = corners.flatMap fun k => g (f.get k) := List.flatMap_map f.get g corners

/-! ### What the owners answer -/

section

variable {s : State} {b sect : Byte} {i : StationId}

theorem ownGetTally_badArg (h : 3 < b.toNat) : ownGetTally b s = (.refuse .badArg, s) := by
  simp only [ownGetTally, stationOf_of_gt h]

theorem ownGetTally_ok (h : b.toNat = i.val) : ownGetTally b s = (.ok (s.play.station i).tally.bytes, s) := by
  simp only [ownGetTally, stationOf_of_eq h]

theorem ownGetResult_badArg (h : 3 < b.toNat) : ownGetResult b s = (.refuse .badArg, s) := by
  simp only [ownGetResult, stationOf_of_gt h]

theorem ownGetResult_busy (h : b.toNat = i.val) (hs : (s.play.station i).state ≠ .finished) :
    ownGetResult b s = (.refuse .busy, s) := by
  simp only [ownGetResult, stationOf_of_eq h]
  split
  next hfinished _ => exact absurd hfinished hs
  next => rfl

theorem ownGetResult_ok {record : ResultRecord} (h : b.toNat = i.val) (hs : (s.play.station i).state = .finished)
    (hr : (s.play.station i).tally.record = some record) : ownGetResult b s = (.ok (record.bytes i), s) := by
  simp only [ownGetResult, stationOf_of_eq h, hs, hr]

theorem ownGetSensors_badArg (h : 3 < b.toNat) : ownGetSensors b s = (.refuse .badArg, s) := by
  simp only [ownGetSensors, stationOf_of_gt h]

theorem ownGetSensors_ok (h : b.toNat = i.val) :
    ownGetSensors b s = (.ok (sensorBytes b (s.scanner.stations.get i)), s) := by
  simp only [ownGetSensors, stationOf_of_eq h]

theorem ownGetStatus_part (h : sect.toNat = 0) : ownGetStatus sect b s = (.ok (sect :: b :: partSection s), s) := by
  simp only [ownGetStatus, h]

theorem ownGetStatus_badSection (h : 3 < sect.toNat) : ownGetStatus sect b s = (.refuse .badArg, s) := by
  unfold ownGetStatus
  split <;> [omega; omega; omega; omega; rfl]

theorem ownGetStatus_badStation (h : 1 ≤ sect.toNat) (hb : 3 < b.toNat) :
    ownGetStatus sect b s = (.refuse .badArg, s) := by
  rw [ownGetStatus, stationOf_of_gt hb]
  split <;> [omega; contradiction; contradiction; contradiction; rfl]

/-- A section of a station: its own items, its panels, or its lamps (R177). -/
theorem ownGetStatus_ok (hb : b.toNat = i.val) (h1 : 1 ≤ sect.toNat) (h3 : sect.toNat ≤ 3) : ownGetStatus sect b s =
    (.ok (sect :: b ::
      if sect.toNat = 1 then stationSection s i
      else if sect.toNat = 2 then panelIds.flatMap fun j => (s.panel i j).bytes
      else panelIds.flatMap fun j => ((s.play.lamps.get i).get j).bytes), s) := by
  have hcases : sect.toNat = 1 ∨ sect.toNat = 2 ∨ sect.toNat = 3 := by omega
  rcases hcases with h | h | h
  · simp only [ownGetStatus, stationOf_of_eq hb, h, if_true]
  · simp only [ownGetStatus, stationOf_of_eq hb, h, Nine.flatMap_toList]
    rfl
  · simp only [ownGetStatus, stationOf_of_eq hb, h, Nine.flatMap_toList]
    rfl

end

/-- One channel of GET_SENSORS: its raw sample with the health in bit 15, its baseline, its load (R142). -/
theorem Channel.bytes_eq (c : Channel) : c.bytes =
    leBytes 2 (c.raw + if c.faulty then 32768 else 0) ++ leBytes 2 c.b16 ++ leBytes 2 c.load := by
  unfold Channel.bytes
  cases c.faulty <;> rfl

/-- The values of a station's last completed scan, panel by panel and corner by corner (R142). -/
theorem sensorBytes_eq (b : Byte) (sc : ScanStation) : sensorBytes b sc = b :: leInt 4 sc.stamp
    ++ (panelIds.flatMap fun j => corners.flatMap fun k =>
      let c := (sc.channels.get j).get k
      leBytes 2 (c.raw + if c.faulty then 32768 else 0) ++ leBytes 2 c.b16 ++ leBytes 2 c.load)
    ++ panelIds.flatMap fun j => leBytes 2 (sc.loads.get j) := by
  simp only [sensorBytes, Nine.flatMap_toList, Four.flatMap_toList, Channel.bytes_eq]

/-- Settles O15: each owner answers what stands, by the station byte and the section, and returns the part as it was. -/
theorem readingRequestsChangeNothing : Obligations.ReadingRequestsChangeNothing := by
  refine ⟨fun tag b i s hr hb =>
      ⟨?tally, fun record hs hrec => ?result, fun hs => ?busy, ?sensors, fun sect h1 h3 => ?status⟩,
    fun tag b sect s hr => ⟨fun h => ?part, fun h => ?badSection, fun h =>
      ⟨?badTally, ?badResult, ?badSensors, fun h1 => ?badStatus⟩⟩⟩
  case tally => exact next_answered hr (ownGetTally_ok (s := s.counted) hb)
  case result => exact next_answered hr (ownGetResult_ok (s := s.counted) hb hs hrec)
  case busy => exact next_answered hr (ownGetResult_busy (s := s.counted) hb hs)
  case sensors =>
    rw [← sensorBytes_eq]
    exact next_answered hr (ownGetSensors_ok (s := s.counted) hb)
  case status => exact next_answered hr (ownGetStatus_ok (s := s.counted) hb h1 h3)
  case part => exact next_answered hr (ownGetStatus_part (s := s.counted) h)
  case badSection => exact next_answered hr (ownGetStatus_badSection (s := s.counted) h)
  case badTally => exact next_answered hr (ownGetTally_badArg (s := s.counted) h)
  case badResult => exact next_answered hr (ownGetResult_badArg (s := s.counted) h)
  case badSensors => exact next_answered hr (ownGetSensors_badArg (s := s.counted) h)
  case badStatus => exact next_answered hr (ownGetStatus_badStation (s := s.counted) h1 h)

end Sys2Proof.Machine

/-! ## RESET_PLAY (O7) -/

namespace Sys2Proof.Machine

/-- A move of T moves the stamp of a scan under way alone, held in the range of T (R131; entry 22). -/
theorem Scanner.moveStamp_eq (n : Int) (sc : Scanner) : sc.moveStamp n = { sc with
    scanStamp := if sc.waiting.any id then max (-2147483648) (min 2147483647 (sc.scanStamp + n)) else sc.scanStamp } := by
  unfold Scanner.moveStamp
  split <;> rfl

theorem State.reset_station_judge (i : StationId) (c : JudgeConfig) :
    ({ State.reset.play.station i with judge := c } : Station) = .idle c := by
  rw [State.reset_station]
  rfl

section

variable (s : State)

/-- RESET_PLAY leaves each station IDLE with its judge configuration (R20). -/
theorem resetPlay_station (i : StationId) : (resetPlay s).play.station i = .idle (s.play.station i).judge :=
  Four.get_map _ _ _

/-- RESET_PLAY puts every lamp's mode to OFF; its demand and on-time stand until the next period start (R168; entry 17). -/
theorem resetPlay_lamp (i : StationId) (j : PanelId) :
    ((resetPlay s).play.lamps.get i).get j = { (s.play.lamps.get i).get j with mode := .off } := by
  change ((s.play.lamps.map fun row => row.map fun l : Lamp => { l with mode := .off }).get i).get j = _
  rw [Four.get_map, Nine.get_map]

/-- RESET_PLAY clears a station's presence, beside what the move of T does to its panels (R162). -/
theorem resetPlay_panelStation (i : StationId) : (resetPlay s).panelStation i
    = (((movePanels (0 - s.play.time) s.panels).get i).resetPlay) := Four.get_map _ _ _

/-- RESET_PLAY moves the run stamps by the move of T to 0 (R127, R180). -/
theorem resetPlay_panel (i : StationId) (j : PanelId) :
    (resetPlay s).panel i j = { s.panel i j with state := (s.panel i j).state.moveStamp (-s.play.timeline.t) } := by
  rw [State.panel, resetPlay_panelStation, ← Int.zero_sub]
  exact s.panel_movePanels _ i j

end

/-- Settles O7: RESET_PLAY's work block by block. -/
theorem resetPlayClearsPlayAndKeepsConfiguration : Obligations.ResetPlayClearsPlayAndKeepsConfiguration := by
  intro tag s hr
  refine ⟨resetPlay s, next_answered (owner := ownResetPlay) hr rfl, rfl, fun i => ⟨?station, fun j =>
    ⟨resetPlay_lamp s i j, resetPlay_panel s i j⟩, ?presence⟩, ?scanner, rfl⟩
  case station => rw [State.reset_station_judge, resetPlay_station]
  case presence =>
    rw [resetPlay_panelStation, movePanels, Four.get_map]
    rfl
  case scanner =>
    have hmove : s.scanner.scanStamp - s.play.timeline.t = s.scanner.scanStamp + (0 - s.play.timeline.t) := by omega
    rw [hmove]
    exact s.scanner.moveStamp_eq _

end Sys2Proof.Machine

/-! ## CONFIG_TIMING (O18) -/

namespace Sys2Proof.Machine

section

variable {rate tol : BitVec 32} {s : State}

theorem ownConfigTiming_busy (hs : s.play.timeline.state ≠ .stopped) :
    ownConfigTiming rate tol s = (.refuse .busy, s) := if_pos hs

theorem ownConfigTiming_badArg (hs : s.play.timeline.state = .stopped) (h : rate.toNat < 8000 ∨ 192000 < rate.toNat) :
    ownConfigTiming rate tol s = (.refuse .badArg, s) := (if_neg (not_not.mpr hs)).trans (if_pos h)

theorem ownConfigTiming_ok (hs : s.play.timeline.state = .stopped) (hlow : 8000 ≤ rate.toNat)
    (hhigh : rate.toNat ≤ 192000) : ownConfigTiming rate tol s =
      (.okClamped (decide (tol.toNat < 500 ∨ 100000 < tol.toNat))
          (leBytes 4 rate.toNat ++ leBytes 4 (max 500 (min 100000 tol.toNat))),
        s.modPlay fun p => p.modTimeline fun tl =>
          { tl with rate := rate.toNat, tolerance := max 500 (min 100000 tol.toNat), r := 0, edgeRun := 0 }) := by
  have hrange : ¬ (rate.toNat < 8000 ∨ rate.toNat > 192000) := by omega
  simp only [ownConfigTiming, if_neg (not_not.mpr hs), if_neg hrange,
    setting_clamped (show 500 ≤ 100000 by decide), setting_value]

end

/-- Settles O18: the two refusals in their order, and the stored values. -/
theorem configTimingStoresRateAndTolerance : Obligations.ConfigTimingStoresRateAndTolerance := by
  intro tag rate tol s hr
  exact ⟨fun hs => next_answered hr (ownConfigTiming_busy (s := s.counted) hs),
    fun hs h => next_answered hr (ownConfigTiming_badArg (s := s.counted) hs h),
    fun hs hlow hhigh => next_answered hr (ownConfigTiming_ok (s := s.counted) hs hlow hhigh)⟩

end Sys2Proof.Machine

/-! ## An ANCHOR that does not step (O33) -/

namespace Sys2Proof.Machine

/-- The lock set and the bad anchors counted; a change of the lock is reported (R123). -/
theorem Play.setLock_eq (p : Play) (lock : Lock) (count : Nat) : p.setLock lock count = { p with
    timeline := { p.timeline with lock := lock, badAnchors := count }
    reports := if p.timeline.lock = lock then p.reports
      else p.reports.push ⟨p.timeline.t, .timeline .lockChange p.timeline.t p.timeline.source lock 0⟩ } := by
  unfold Play.setLock
  split <;> rfl

section

variable {time : BitVec 32} {s : State}

theorem ownAnchor_busy (hs : s.play.timeline.state ≠ .running) : ownAnchor time s = (.refuse .busy, s) := if_pos hs

/-- A good anchor (R123). -/
theorem ownAnchor_good (hs : s.play.timeline.state = .running)
    (htol : (time.toInt - s.play.timeline.t).natAbs ≤ s.play.timeline.tolerance) :
    ownAnchor time s = (.ok (leInt 4 (clampTime (time.toInt - s.play.timeline.t)) ++ [1, 0, 0]),
      s.modPlay fun p => p.setLock .locked 0) := by
  refine ((if_neg (not_not.mpr hs)).trans (if_pos htol)).trans ?_
  simp only [anchorAnswer, State.play_modPlay, Play.setLock_eq]
  rfl

/-- A bad anchor that is not the third (R123). -/
theorem ownAnchor_bad (hs : s.play.timeline.state = .running)
    (htol : s.play.timeline.tolerance < (time.toInt - s.play.timeline.t).natAbs) (hbad : s.play.timeline.badAnchors < 2) :
    ownAnchor time s = (.ok (leInt 4 (clampTime (time.toInt - s.play.timeline.t))
        ++ [2, codeByte (s.play.timeline.badAnchors + 1), 0]),
      s.modPlay fun p => p.setLock .suspect (s.play.timeline.badAnchors + 1)) := by
  refine (((if_neg (not_not.mpr hs)).trans (if_neg (not_le.mpr htol))).trans (if_pos hbad)).trans ?_
  simp only [anchorAnswer, State.play_modPlay, Play.setLock_eq]
  rfl

end

/-- Settles O33: the refusal, the good anchor and the bad one, each with the lock it sets. -/
theorem anchorSortsGoodAndBad : Obligations.AnchorSortsGoodAndBad := by
  intro tag time s hr diff after
  have hafter : ∀ lock count, (s.counted.modPlay fun p => p.setLock lock count) = (after lock count).counted :=
    fun lock count => congrArg (fun q => ({ s.counted with play := q } : State)) (s.play.setLock_eq lock count)
  refine ⟨fun hs => next_answered hr (ownAnchor_busy (s := s.counted) hs), fun hs htol => next_answered hr ?good,
    fun hs htol hbad => next_answered hr ?bad⟩
  case good => rw [ownAnchor_good (s := s.counted) hs htol, hafter]; rfl
  case bad => rw [ownAnchor_bad (s := s.counted) hs htol hbad, ← hafter]; rfl

end Sys2Proof.Machine

/-! ## One crystal period (O2) -/

namespace Sys2Proof.Machine

/-! ### The queue, the supply and the local time across an event -/

/-- The queue of commands, the supply with the pin, and the local time are the same in both states. -/
structure State.SameClock (s t : State) : Prop where
  pending : t.pending = s.pending
  live : t.live = s.live
  localTime : t.localTime = s.localTime

theorem State.SameClock.trans {s t u : State} (h : s.SameClock t) (h' : t.SameClock u) : s.SameClock u :=
  ⟨h'.pending.trans h.pending, h'.live.trans h.live, h'.localTime.trans h.localTime⟩

section

variable (s : State)

theorem State.SameClock.refl : s.SameClock s := ⟨rfl, rfl, rfl⟩

theorem modLink_sameClock (f : Link → Link) : s.SameClock (s.modLink f) := ⟨rfl, rfl, rfl⟩

theorem modPlay_sameClock (f : Play → Play) : s.SameClock (s.modPlay f) := ⟨rfl, rfl, rfl⟩

theorem chooseFrame_sameClock : s.SameClock (chooseFrame s) := by
  unfold chooseFrame
  split
  next => exact ⟨rfl, rfl, rfl⟩
  next => split <;> exact ⟨rfl, rfl, rfl⟩
  next => exact ⟨rfl, rfl, rfl⟩
  next => exact ⟨rfl, rfl, rfl⟩

theorem txFrameBegin_sameClock : s.SameClock (txFrameBegin s) := by
  unfold txFrameBegin
  split <;> [exact chooseFrame_sameClock s; exact .refl s]

theorem txFrameEnd_sameClock : s.SameClock (txFrameEnd s) := by
  unfold txFrameEnd
  split
  next => exact .refl s
  next => exact (modLink_sameClock s _).trans (chooseFrame_sameClock _)

theorem gapTimeout_sameClock : s.SameClock (gapTimeout s) := by
  unfold gapTimeout
  split <;> exact ⟨rfl, rfl, rfl⟩

theorem startPending_sameClock : s.SameClock (startPending s) := by
  unfold startPending
  split <;> exact ⟨rfl, rfl, rfl⟩

theorem lossTimerExpiry_sameClock : s.SameClock (lossTimerExpiry s) := by
  unfold lossTimerExpiry
  split
  next => exact (modPlay_sameClock s _).trans (startPending_sameClock _)
  next => exact .refl s

theorem holdoverTick_sameClock : s.SameClock (holdoverTick s) := by
  unfold holdoverTick
  split <;> exact ⟨rfl, rfl, rfl⟩

theorem scanIfDue_sameClock : s.SameClock (scanIfDue s) := by
  unfold scanIfDue
  split <;> exact ⟨rfl, rfl, rfl⟩

theorem pwmIfDue_sameClock : s.SameClock (pwmIfDue s) := by
  unfold pwmIfDue
  split <;> exact ⟨rfl, rfl, rfl⟩

theorem latchIfDue_sameClock : s.SameClock (latchIfDue s) := by
  unfold latchIfDue
  split <;> exact ⟨rfl, rfl, rfl⟩

theorem beginMicro_sameClock : s.SameClock (beginMicro s) :=
  ((scanIfDue_sameClock s).trans (pwmIfDue_sameClock _)).trans (latchIfDue_sameClock _)

theorem endMicro_sameClock : s.SameClock (endMicro s) := (holdoverTick_sameClock s).trans ⟨rfl, rfl, rfl⟩

theorem onMicro_sameClock {f : State → State} (h : ∀ u : State, u.SameClock (f u)) : s.SameClock (onMicro f s) := by
  unfold onMicro
  split <;> [exact h s; exact .refl s]

theorem lossTick_sameClock : s.SameClock (lossTick s) := by
  unfold lossTick
  split
  next => exact .refl s
  next => split <;> [exact lossTimerExpiry_sameClock s; exact ⟨rfl, rfl, rfl⟩]

theorem gapTick_sameClock : s.SameClock (gapTick s) := by
  unfold gapTick
  split
  next => exact .refl s
  next => split <;> [exact gapTimeout_sameClock s; exact ⟨rfl, rfl, rfl⟩]

theorem sendTick_sameClock : s.SameClock (sendTick s) := by
  unfold sendTick
  split
  next => exact .refl s
  next => split <;> [exact txFrameEnd_sameClock s; exact ⟨rfl, rfl, rfl⟩]

end

/-! ### Each part of a crystal period, by the row it takes -/

section

variable {s : State} (hlive : s.live = true)
include hlive

/-- What a row makes of a part that runs is what its event does. -/
theorem State.runs_live {f : State → State} (c : Instr) (h : exec c s = .next (whenLive f s)) : s.runs c = f s := by
  rw [State.runs, h, whenLive_live hlive]

theorem scanIfDue_eq : scanIfDue s = if s.scanner.countdown = 0 then s.runs .scanStart else s := by
  rw [State.runs_live hlive .scanStart rfl, scanIfDue]

theorem pwmIfDue_eq : pwmIfDue s = if s.drive.countdown = 0 then s.runs .pwmPeriodStart else s := by
  rw [State.runs_live hlive .pwmPeriodStart rfl, pwmIfDue]

/-- The latch comes 900 µs before the end of the PWM period (R182). -/
theorem latchIfDue_eq : latchIfDue s = if s.drive.countdown = 900 then s.runs .lampChainLatch else s := by
  have hdue : s.drive.countdown + Config.latchDelay = Config.pwmPeriod ↔ s.drive.countdown = 900 := by
    unfold Config.latchDelay Config.pwmPeriod
    omega
  rw [State.runs_live hlive .lampChainLatch rfl, latchIfDue]
  simp only [hdue]

theorem lossTick_eq : lossTick s =
    if s.play.timeline.source = .holdover then s
    else if 12000 ≤ s.play.timeline.lossTimer + 1 then s.runs .lossTimerExpiry
    else { s with play := { s.play with timeline := { s.play.timeline with
      lossTimer := s.play.timeline.lossTimer + 1 } } } := by
  rw [State.runs_live hlive .lossTimerExpiry rfl, lossTick]
  cases s.play.timeline.source <;> rfl

theorem gapTick_eq : gapTick s =
    if s.link.rx = .hunting then s
    else if 12000 < s.link.gapTimer + 1 then s.runs .gapTimeout
    else { s with link := { s.link with gapTimer := s.link.gapTimer + 1 } } := by
  rw [State.runs_live hlive .gapTimeout rfl, gapTick]
  cases hrx : s.link.rx with
  | hunting => rfl
  | inFrame bytes => rfl

end

/-- Every part of a crystal period but the rise of the local time keeps the local time, the supply and the queue. -/
theorem crystalPeriod_clock (s : State) : (crystalPeriod s).pending = s.pending
    ∧ (crystalPeriod s).localTime = s.localTime + 1 := by
  have hopened := (txFrameBegin_sameClock s).trans (onMicro_sameClock _ beginMicro_sameClock)
  have hpassed := (((onMicro_sameClock (onMicro beginMicro (txFrameBegin s)).nextPeriod endMicro_sameClock).trans
    (lossTick_sameClock _)).trans (gapTick_sameClock _)).trans (sendTick_sameClock _)
  exact ⟨hpassed.pending.trans hopened.pending, hpassed.localTime.trans (congrArg (· + 1) hopened.localTime)⟩

theorem step_idle {s : State} (h : s.pending = []) : step s = .next (idle s) := by
  unfold step
  rw [h]

/-- Settles O2: the crystal period is followed part by part, each part the row that comes due in it. -/
theorem emptyQueueIsOneCrystalPeriod : Obligations.EmptyQueueIsOneCrystalPeriod := by
  intro s hq
  refine ⟨fun hstill => by rw [step_idle hq, idle, whenLive_still hstill], fun hlive => ?_⟩
  have hstep : step s = .next (crystalPeriod s) := by rw [step_idle hq, idle, whenLive_live hlive]
  intro begun scanned lit latched opened passed held closed tl watched heard
  have hbegun : begun = txFrameBegin s := State.runs_live hlive .txFrameBegin rfl
  have kbegun : s.SameClock begun := hbegun ▸ txFrameBegin_sameClock s
  have hscanned : scanned = scanIfDue begun := (scanIfDue_eq (kbegun.live.trans hlive)).symm
  have kscanned : s.SameClock scanned := kbegun.trans (hscanned ▸ scanIfDue_sameClock begun)
  have hlit : lit = pwmIfDue scanned := (pwmIfDue_eq (kscanned.live.trans hlive)).symm
  have klit : s.SameClock lit := kscanned.trans (hlit ▸ pwmIfDue_sameClock scanned)
  have hlatched : latched = beginMicro begun := by
    rw [beginMicro, ← hscanned, ← hlit]
    exact (latchIfDue_eq (klit.live.trans hlive)).symm
  have hopened : opened = onMicro beginMicro begun := by
    rw [onMicro, kbegun.localTime, ← hlatched]
    rfl
  have kopened : s.SameClock opened := kbegun.trans (hopened ▸ onMicro_sameClock begun beginMicro_sameClock)
  have hpassed : passed = opened.nextPeriod := by
    rw [State.nextPeriod, kopened.localTime]
    rfl
  have lpassed : passed.live = true := kopened.live.trans hlive
  have hclosed : closed = onMicro endMicro passed := by
    rw [onMicro, endMicro, ← State.runs_live lpassed .holdoverTick rfl]
    rfl
  have lclosed : closed.live = true := by
    rw [hclosed, (onMicro_sameClock passed endMicro_sameClock).live, lpassed]
  have hwatched : watched = lossTick closed := (lossTick_eq lclosed).symm
  have lwatched : watched.live = true := by rw [hwatched, (lossTick_sameClock closed).live, lclosed]
  have hheard : heard = gapTick watched := (gapTick_eq lwatched).symm
  have lheard : heard.live = true := by rw [hheard, (gapTick_sameClock watched).live, lwatched]
  have hsent : crystalPeriod s = sendTick heard := by
    rw [crystalPeriod, ← hbegun, ← hopened, ← hpassed, ← hclosed, ← hwatched, ← hheard]
  obtain ⟨hpending, htime⟩ := crystalPeriod_clock s
  refine ⟨?_, crystalPeriod s, hstep, hpending.trans hq, htime⟩
  rw [hstep, hsent, sendTick, State.runs_live lheard .txFrameEnd rfl]
  cases heard.link.tx <;> rfl

end Sys2Proof.Machine

/-! ## The panel unit's work in a scan: what it touches, and the ranges it keeps (O48, O49, O59) -/

namespace Sys2Proof.Machine

/-! ### One panel (R145) -/

section

variable {p : Panel} (h : p.InRange)

include h

/-- A panel that comes to another state with its timer at 0. -/
theorem Panel.InRange.settled {st : PanelState} (hst : st.RunInRange) (latch : Bool) :
    Panel.InRange { p with state := st, stuckTimer := 0, stuckLatch := latch } := by
  obtain ⟨-, -, hconfig⟩ := h
  exact ⟨hst, Nat.zero_le _, hconfig⟩

/-- A panel that comes to another state, or counts on in it. -/
theorem Panel.InRange.inState {st : PanelState} (hst : st.RunInRange) : Panel.InRange { p with state := st } := by
  obtain ⟨-, htimer, hconfig⟩ := h
  exact ⟨hst, htimer, hconfig⟩

variable {stamp : Int}

/-- A press run under way has fewer scans than D_on, which is 8 at most (R147, R156). -/
theorem Panel.InRange.pressRun (hstamp : InTimeRange stamp) {n : Nat} (hn : 1 ≤ n) : (p.pressRun stamp n).panel.InRange := by
  obtain ⟨-, -, -, -, -, -, hdOn, -⟩ := id h
  unfold Panel.pressRun
  split
  next => exact h.settled trivial _
  next hlt => exact h.inState ⟨hstamp, hn, by omega⟩

theorem Panel.InRange.releaseRun (hstamp : InTimeRange stamp) {n : Nat} (hn : 1 ≤ n) :
    (p.releaseRun stamp n).panel.InRange := by
  obtain ⟨-, -, -, -, -, -, -, -, hdOff, -⟩ := id h
  unfold Panel.releaseRun
  split
  next => exact h.settled trivial _
  next hlt => exact h.inState ⟨hstamp, hn, by omega⟩

theorem Panel.InRange.stuckRun (n : Nat) : (p.stuckRun n).panel.InRange := by
  obtain ⟨-, -, -, -, -, -, -, -, hdOff, -⟩ := id h
  unfold Panel.stuckRun
  split
  next => exact h.settled trivial _
  next hlt => exact h.inState (show n ≤ 8 by omega)

/-- A panel's move on its load keeps it in range: a run keeps its stamp, or begins with the scan's (R147, R148, R152). -/
theorem Panel.InRange.move (hstamp : InTimeRange stamp) (load : Nat) : (p.move stamp load).panel.InRange := by
  obtain ⟨hrun, -⟩ := id h
  unfold Panel.move
  cases hst : p.state with
  | released => dsimp only; split <;> [exact h.pressRun hstamp (le_refl 1); exact h]
  | pressing run n =>
    rw [hst] at hrun
    dsimp only
    split <;> [exact h.pressRun hrun.1 (Nat.le_add_left 1 n); exact h.settled trivial _]
  | pressed => dsimp only; split <;> [exact h.releaseRun hstamp (le_refl 1); exact h]
  | releasing run n =>
    rw [hst] at hrun
    dsimp only
    split <;> [exact h.releaseRun hrun.1 (Nat.le_add_left 1 n); exact h.inState trivial]
  | stuck n => dsimp only; split <;> [exact h.stuckRun _; exact h.inState (Nat.zero_le 8)]
  | dead => exact h

/-- A stuck timer that is not due stays below the stuck time, which is 120 s at most (R151, R156). -/
theorem Panel.InRange.timed (hdue : ¬ stuckDue p = true) : Panel.InRange { p with stuckTimer := p.stuckTimer + timerStep } := by
  obtain ⟨hrun, -, hconfig⟩ := h
  obtain ⟨-, -, -, -, -, -, -, -, hstuck⟩ := id hconfig
  simp only [stuckDue, ge_iff_le, decide_eq_true_eq, not_le] at hdue
  exact ⟨hrun, by dsimp only; omega, hconfig⟩

end

/-! ### Work on one station -/

/-- The second state comes from the first by a part of the panel unit's work for station `i` with a scan of this stamp: the play
blocks and station `i`'s panel unit alone are touched, no other station's record among the play blocks, and the panel unit keeps
its ranges. -/
structure State.PanelWork (i : StationId) (stamp : Int) (s t : State) : Prop where
  frame : { t with play := s.play, panels := s.panels } = s
  units : ∀ k, k ≠ i → t.panelStation k = s.panelStation k
  stations : ∀ k, k ≠ i → t.play.station k = s.play.station k
  inRange : InTimeRange stamp → (s.panelStation i).InRange → (t.panelStation i).InRange

namespace State.PanelWork

variable {i : StationId} {j : PanelId} {stamp : Int} {s t u : State}

theorem refl (i : StationId) (stamp : Int) (s : State) : PanelWork i stamp s s :=
  ⟨rfl, fun _ _ => rfl, fun _ _ => rfl, fun _ h => h⟩

theorem trans (h : PanelWork i stamp s t) (h' : PanelWork i stamp t u) : PanelWork i stamp s u where
  frame := (congrArg (fun v : State => { v with play := s.play, panels := s.panels }) h'.frame).trans h.frame
  units k hk := (h'.units k hk).trans (h.units k hk)
  stations k hk := (h'.stations k hk).trans (h.stations k hk)
  inRange hstamp hs := h'.inRange hstamp (h.inRange hstamp hs)

theorem scanner (h : PanelWork i stamp s t) : t.scanner = s.scanner := (congrArg State.scanner h.frame :)

theorem drive (h : PanelWork i stamp s t) : t.drive = s.drive := (congrArg State.drive h.frame :)

theorem link (h : PanelWork i stamp s t) : t.link = s.link := (congrArg State.link h.frame :)

theorem localTime (h : PanelWork i stamp s t) : t.localTime = s.localTime := (congrArg State.localTime h.frame :)

/-- A change of the play blocks alone. -/
theorem modPlay (f : Play → Play) (hf : ∀ k, k ≠ i → (f s.play).station k = s.play.station k) :
    PanelWork i stamp s (s.modPlay f) := ⟨rfl, fun _ _ => rfl, hf, fun _ h => h⟩

theorem report (i : StationId) (stamp : Int) (s : State) (b : ReportBody) : PanelWork i stamp s (s.report b) :=
  modPlay _ fun _ _ => rfl

/-- A change of the panel unit alone. -/
theorem modPanelStation (f : PanelStation → PanelStation) (hf : (s.panelStation i).InRange → (f (s.panelStation i)).InRange) :
    PanelWork i stamp s (s.modPanelStation i f) where
  frame := rfl
  units k hk := Four.get_modify_ne _ _ hk
  stations _ _ := rfl
  inRange _ hs := by rw [State.panelStation_modPanelStation]; exact hf hs

/-- A change of one panel alone. -/
theorem setPanel (p : Panel) (hp : InTimeRange stamp → (s.panel i j).InRange → p.InRange) :
    PanelWork i stamp s (s.setPanel i j p) where
  frame := rfl
  units k hk := Four.get_modify_ne _ _ hk
  stations _ _ := rfl
  inRange hstamp := by
    rintro ⟨hpanels, hrest⟩
    rw [State.setPanel, State.panelStation_modPanelStation]
    refine ⟨fun k => ?_, hrest⟩
    rw [Nine.get_set]
    split <;> [exact hp hstamp (hpanels j); exact hpanels k]

end State.PanelWork

section

variable (i : StationId) (j : PanelId) (stamp : Int) (s : State)

/-- A press edge in occupancy: OCCUPIED, the timer at 0 (R157). -/
theorem arrive_work : s.PanelWork i stamp (arrive i s) := by
  have hunit : s.PanelWork i stamp (s.modPanelStation i fun ps =>
      { ps with occupied := true, occupancyTimer := 0, armed := ps.armed && ps.occupied }) :=
    .modPanelStation _ fun ⟨hpanels, _, hrest⟩ => ⟨hpanels, Nat.zero_le _, hrest⟩
  unfold arrive
  dsimp only
  split <;> [exact hunit.trans (.report i stamp _ _); exact hunit]

theorem deliverEdge_work (e : Edge) : s.PanelWork i stamp (deliverEdge i j e s) := by
  have hreport : ∀ e, s.PanelWork i stamp (reportEdge i j e s) := fun e => by
    unfold reportEdge
    split <;> [cases e <;> exact .report i stamp s _; exact .refl i stamp s]
  have hjudge : ∀ e (u : State), u.PanelWork i stamp (judgeEdge i j e u) := fun e u => by
    cases e with
    | press => exact .modPlay _ fun k hk => ((u.play.offerPress_moves i j _ false _).sameBut.others k hk).1
    | release => exact .modPlay _ fun k hk => ((u.play.offerRelease_moves i j _ false).sameBut.others k hk).1
  have hoccupy : ∀ e (u : State), u.PanelWork i stamp (occupyEdge i e u) := fun e u => by
    cases e with
    | press => exact arrive_work i stamp u
    | release => exact .refl i stamp u
  exact ((hreport _).trans (hjudge _ _)).trans (hoccupy _ _)

theorem deliver_work (e : Option Edge) : s.PanelWork i stamp (deliver i j e s) := by
  cases e with
  | none => exact .refl i stamp s
  | some e => exact deliverEdge_work i j stamp s e

theorem becomeDead_work (edgeStamp : Int) : s.PanelWork i stamp (becomeDead i j edgeStamp s) :=
  (State.PanelWork.setPanel { s.panel i j with state := .dead, stuckTimer := 0 } fun _ h => h.settled trivial _).trans
    ((State.PanelWork.report i stamp _ _).trans (deliver_work i j stamp _ _))

theorem becomeStuck_work (edgeStamp : Int) : s.PanelWork i stamp (becomeStuck i j edgeStamp s) :=
  (State.PanelWork.setPanel { s.panel i j with state := .stuck 0, stuckTimer := 0, stuckLatch := true }
    fun _ h => h.settled (Nat.zero_le 8) _).trans
    ((State.PanelWork.report i stamp _ _).trans (deliverEdge_work i j stamp _ (.release edgeStamp)))

theorem advanceStuck_work (edgeStamp : Int) (entered : Bool) : s.PanelWork i stamp (advanceStuck i j edgeStamp entered s) := by
  unfold advanceStuck
  dsimp only
  split
  next =>
    split
    next => exact becomeStuck_work i j stamp s edgeStamp
    next hdue => exact .setPanel _ fun _ h => h.timed hdue
  next => exact .refl i stamp s

theorem recoverPanel_work : s.PanelWork i stamp (recoverPanel i j s) := by
  unfold recoverPanel
  dsimp only
  split <;> [exact .setPanel _ fun _ h => h.settled trivial _; exact .refl i stamp s]

theorem takeLoad_work (load : Nat) : s.PanelWork i stamp (takeLoad i j stamp load s) :=
  (State.PanelWork.setPanel ((s.panel i j).move stamp load).panel fun hstamp h => h.move hstamp load).trans
    ((deliver_work i j stamp _ _).trans (advanceStuck_work i j stamp _ stamp _))

theorem takePanel_work (scan : PanelScan) : s.PanelWork i stamp (takePanel i j stamp scan s) := by
  have hload : s.PanelWork i stamp (if scan.healthy = 0 then
      if (s.panel i j).state = .dead then s else becomeDead i j stamp s
    else takeLoad i j stamp scan.load s) := by
    split
    next => split <;> [exact .refl i stamp s; exact becomeDead_work i j stamp s stamp]
    next => exact takeLoad_work i j stamp s _
  unfold takePanel
  dsimp only
  split <;> [exact hload.trans (recoverPanel_work i j stamp _); exact hload]

theorem takePanels_work (scans : Nine PanelScan) (js : List PanelId) :
    s.PanelWork i stamp (takePanels i stamp scans js s) := by
  induction js generalizing s with
  | nil => exact .refl i stamp s
  | cons j js ih => exact (takePanel_work i j stamp s _).trans (ih _)

theorem becomeVacant_work : s.PanelWork i stamp (becomeVacant i s) :=
  (State.PanelWork.modPanelStation (fun ps => { ps with occupied := false, occupancyTimer := 0 })
    fun ⟨hpanels, _, hrest⟩ => ⟨hpanels, Nat.zero_le _, hrest⟩).trans (.report i stamp _ _)

/-- The occupancy timer stays below the age, which is 600 s at most (R156, R157). -/
theorem advanceOccupancy_work : s.PanelWork i stamp (advanceOccupancy i s) := by
  unfold advanceOccupancy
  dsimp only
  split
  next =>
    split
    next => exact becomeVacant_work i stamp s
    next hdue =>
      simp only [PanelStation.vacancyDue, ge_iff_le, decide_eq_true_eq, not_le] at hdue
      refine .modPanelStation _ fun ⟨hpanels, _, hage, hrest⟩ => ⟨hpanels, ?_, hage, hrest⟩
      dsimp only
      omega
  next => exact .refl i stamp s

/-- A change of the combo's timer and mark. -/
theorem combo_work (timer : Nat) (spent : Bool) (htimer : (s.panelStation i).InRange → timer ≤ 10000000) :
    s.PanelWork i stamp (s.modPanelStation i fun ps => { ps with comboTimer := timer, comboSpent := spent }) :=
  .modPanelStation _ fun h => by
    obtain ⟨hpanels, hocc, hage, hlow, hhigh, -⟩ := id h
    exact ⟨hpanels, hocc, hage, hlow, hhigh, htimer h⟩

theorem fireCombo_work : s.PanelWork i stamp (fireCombo i s) := by
  have hspent := (combo_work i stamp s 0 true fun _ => Nat.zero_le _).trans (.report i stamp _ (.service i))
  unfold fireCombo
  dsimp only
  split
  next =>
    refine hspent.trans (.modPlay _ fun k hk => ?_)
    rw [Play.serviceAbort, Play.abortStation_eq, Play.station_abortTests, Play.station_abortByRules, if_neg hk]
  next => exact hspent

/-- The combo timer stays below the hold time, which is 10 s at most (R159, R160). -/
theorem advanceCombo_work : s.PanelWork i stamp (advanceCombo i s) := by
  unfold advanceCombo
  dsimp only
  split
  next => exact .refl i stamp s
  next =>
    split
    next => split <;> [exact .refl i stamp s; exact combo_work i stamp s 0 false fun _ => Nat.zero_le _]
    next =>
      split
      next =>
        split
        next => exact fireCombo_work i stamp s
        next hdue =>
          simp only [PanelStation.comboDue, ge_iff_le, decide_eq_true_eq, not_le] at hdue
          refine .modPanelStation _ fun ⟨hpanels, hocc, hage, hlow, hhigh, _⟩ => ⟨hpanels, hocc, hage, hlow, hhigh, ?_⟩
          dsimp only
          omega
      next =>
        exact .modPanelStation _ fun ⟨hpanels, hocc, hage, hlow, hhigh, _⟩ =>
          ⟨hpanels, hocc, hage, hlow, hhigh, Nat.zero_le _⟩

theorem reportFaults_work (es : List (Nat × FaultEvent)) : s.PanelWork i stamp (reportFaults i es s) := by
  induction es generalizing s with
  | nil => exact .refl i stamp s
  | cons e es ih => exact (State.PanelWork.report i stamp s _).trans (ih _)

theorem takeScan_work (scans : Nine PanelScan) : s.PanelWork i stamp (takeScan i stamp scans s) :=
  (takePanels_work i stamp s scans _).trans ((advanceOccupancy_work i stamp _).trans (advanceCombo_work i stamp _))

end

end Sys2Proof.Machine

/-! ## A station's scan: its channels, its loads, and the scanner's counters (O48, O49, O59) -/

namespace Sys2Proof

theorem Four.mem_toList {α : Type} {f : Four α} {a : α} : a ∈ f.toList ↔ ∃ k, f.get k = a := by
  have hall : ∀ k : Fin 4, k ∈ ([0, 1, 2, 3] : List (Fin 4)) := by decide
  rw [show f.toList = ([0, 1, 2, 3] : List (Fin 4)).map f.get from rfl, List.mem_map]
  exact ⟨fun ⟨k, _, hk⟩ => ⟨k, hk⟩, fun ⟨k, hk⟩ => ⟨k, hall k, hk⟩⟩

namespace Machine

/-! ### One channel (R132 to R138) -/

/-- A channel's work in a scan is that of R132's steps 1 to 4. -/
theorem Channel.scan_eq (learning : Bool) (sample : BitVec 12) (c : Channel) :
    c.scan learning sample = c.sampleByRules sample.toNat learning := by
  unfold Channel.scan Channel.sampleByRules Channel.seed Channel.learn
  have hrail : isRail sample.toNat = decide (sample.toNat ≤ 15 ∨ 4080 ≤ sample.toNat) :=
    (Bool.decide_or _ _).symm
  cases c.faulty with
  | true => simp [hrail, loadOf, Config.railTop]
  | false =>
    cases c.seedPending with
    | true => simp [hrail, loadOf, Config.railTop]
    | false => cases learning <;> simp [hrail, loadOf, learned, Config.railTop]

/-- A channel at its block's end is that of R136 to R138. -/
theorem Channel.blockEnd_eq (c : Channel) : c.blockEnd = c.blockByRules := by
  unfold Channel.blockEnd Channel.blockByRules Config.railFail Config.railRecover
  simp only [Bool.and_eq_true, Bool.not_eq_true', decide_eq_true_eq, ge_iff_le]

/-- A baseline drawn toward a sample stays in range (R134). -/
theorem learned_le {b16 raw : Nat} (hb : b16 ≤ 65520) (hraw : raw ≤ 4095) : learned b16 raw ≤ 65520 := by
  unfold learned
  rw [Int.tdiv_eq_ediv, show Int.sign 64 = 1 from rfl]
  split <;> omega

theorem Channel.InRange.scan {c : Channel} (h : c.InRange) (learning : Bool) (sample : BitVec 12) :
    (c.scan learning sample).InRange := by
  obtain ⟨-, hb16, -, -⟩ := h
  have hraw : sample.toNat ≤ 4095 := by omega
  have hbase : (if (!c.faulty && c.seedPending) = true then sample.toNat * 16 else c.b16) ≤ 65520 := by split <;> omega
  rw [Channel.scan_eq]
  unfold Channel.sampleByRules
  refine ⟨hraw, ?_, min_le_left _ _, by dsimp only; omega⟩
  dsimp only
  split <;> [exact learned_le hbase hraw; exact hbase]

theorem Channel.InRange.blockEnd {c : Channel} (h : c.InRange) : c.blockEnd.InRange := by
  obtain ⟨hraw, hb16, -, hload⟩ := h
  obtain ⟨eraw, eb16, eload⟩ := c.blockEnd_frame
  exact ⟨eraw ▸ hraw, eb16 ▸ hb16, by rw [Channel.railCount_blockEnd]; exact Nat.zero_le _, eload ▸ hload⟩

/-- A panel load is four times a mean of loads, or 0 (R135). -/
theorem panelLoad_le {cs : Four Channel} (h : ∀ c ∈ cs.toList, c.load ≤ 4095) : panelLoad cs ≤ 16380 := by
  have hsum : healthySum cs ≤ healthyCount cs * 4095 := by
    unfold healthySum healthyCount
    rw [← List.length_map (f := Channel.load), ← smul_eq_mul]
    refine List.sum_le_card_nsmul _ _ fun n hn => ?_
    obtain ⟨c, hc, rfl⟩ := List.mem_map.mp hn
    exact h c (List.mem_filter.mp hc).1
  unfold panelLoad
  refine Nat.div_le_of_le_mul ?_
  omega

/-! ### One station -/

theorem get_scanChannels (learning : Nine Bool) (samples : Samples) (cs : Nine (Four Channel)) (j : PanelId) (k : Fin 4) :
    ((scanChannels learning samples cs).get j).get k
      = ((cs.get j).get k).scan (learning.get j) ((samples.get j).get k) := by
  rw [scanChannels, Nine.get_mapIdx]
  match k with
  | 0 | 1 | 2 | 3 => rfl

theorem get_endBlock (cs : Nine (Four Channel)) (j : PanelId) (k : Fin 4) :
    ((endBlock cs).get j).get k = ((cs.get j).get k).blockEnd := by
  rw [endBlock, Nine.get_map, Four.get_map]

/-- A station's channels after the samples of the scan under way (R132, steps 1 to 4). -/
def State.scannedChannels (s : State) (i : StationId) (samples : Samples) : Nine (Four Channel) :=
  scanChannels (learningPanels s i) samples (s.scanner.stations.get i).channels

/-- A station's channels after the whole of its scan (R132). -/
def State.endedChannels (s : State) (i : StationId) (samples : Samples) : Nine (Four Channel) :=
  if s.scanner.blockPos = Config.blockEnd then endBlock (s.scannedChannels i samples) else s.scannedChannels i samples

/-- What a station's completed scan stores of it (R142). -/
def State.scannedStation (s : State) (i : StationId) (samples : Samples) : ScanStation :=
  { channels := s.endedChannels i samples, loads := (s.scannedChannels i samples).map panelLoad, stamp := s.scanner.scanStamp }

/-- The part as a station's channels are replaced, before the reports and the panel unit (R132). -/
def State.channelsTaken (s : State) (i : StationId) (samples : Samples) : State :=
  s.modScan i fun _ => s.scannedStation i samples

/-- The FAULT reports and the panel unit's work of a station's scan (R139, R140, R146). -/
def State.scanHandled (s : State) (i : StationId) (samples : Samples) : State :=
  takeScan i s.scanner.scanStamp (handOver (s.scannedChannels i samples) (s.endedChannels i samples))
    (reportFaults i (stationEvents (s.scannedChannels i samples) (s.endedChannels i samples)) (s.channelsTaken i samples))

theorem completeScan_eq (i : StationId) (samples : Samples) (s : State) : completeScan i samples s =
    { s.scanHandled i samples with scanner := (s.scanHandled i samples).scanner.finishStation i } := rfl

theorem State.scanHandled_work (s : State) (i : StationId) (samples : Samples) :
    (s.channelsTaken i samples).PanelWork i s.scanner.scanStamp (s.scanHandled i samples) :=
  (reportFaults_work i _ _ _).trans (takeScan_work i _ _ _)

/-- The scanner after a station's scan: its record, and the end of the station's work. -/
theorem scanner_completeScan (i : StationId) (samples : Samples) (s : State) : (completeScan i samples s).scanner =
    Scanner.finishStation i
      { s.scanner with stations := s.scanner.stations.set i (s.scannedStation i samples) } := by
  rw [completeScan_eq, (s.scanHandled_work i samples).scanner]
  rfl

/-- The end of a station's work moves the two counters alone, with the last station (R132). -/
theorem Scanner.finishStation_eq (i : StationId) (sc : Scanner) : sc.finishStation i = { sc with
    waiting := sc.waiting.set i false
    learnPhase := if (sc.waiting.set i false).any id then sc.learnPhase
      else if sc.learnPhase = 15 then 0 else sc.learnPhase + 1
    blockPos := if (sc.waiting.set i false).any id then sc.blockPos
      else if sc.blockPos = 999 then 0 else sc.blockPos + 1 } := by
  unfold Scanner.finishStation
  dsimp only
  cases (sc.waiting.set i false).any id <;> rfl

theorem stations_completeScan (i : StationId) (samples : Samples) (s : State) :
    (completeScan i samples s).scanner.stations = s.scanner.stations.set i (s.scannedStation i samples) := by
  rw [scanner_completeScan, Scanner.finishStation_eq]

theorem waiting_completeScan (i : StationId) (samples : Samples) (s : State) :
    (completeScan i samples s).scanner.waiting = s.scanner.waiting.set i false := by
  rw [scanner_completeScan, Scanner.finishStation_eq]

end Machine

end Sys2Proof

/-! ## Panels, channels, lamps and the lamp chain stay in range (O59) -/

namespace Sys2Proof.Machine

/-! ### Lamps (section 9.1) -/

theorem clampNat_mem {lo hi : Nat} (h : lo ≤ hi) (n : Nat) : lo ≤ clampNat lo hi n ∧ clampNat lo hi n ≤ hi :=
  ⟨le_max_left _ _, max_le h (min_le_left _ _)⟩

/-- The mode of a SET_LAMPS is in range: its values are clamped (R164). -/
theorem lampMode_inRange {f : LampFields} {mode : LampMode} (h : lampMode f = some mode) : mode.InRange := by
  have hlevel := clampNat_mem (Nat.zero_le 15) f.level.toNat
  have hduration := clampNat_mem (show 10 ≤ 1000 by decide) f.duration.toNat
  have hperiod := clampNat_mem (show 100000 ≤ 2000000 by decide) f.period.toNat
  have hduty := clampNat_mem (show 1 ≤ 4 by decide) f.duty.toNat
  unfold lampMode at h
  dsimp only at h
  split at h
  next => obtain rfl := Option.some.inj h; trivial
  next => obtain rfl := Option.some.inj h; exact hlevel.2
  next => obtain rfl := Option.some.inj h; exact hlevel.2
  next => obtain rfl := Option.some.inj h; exact ⟨hlevel.2, hduration.1, hduration.2, Nat.zero_le _⟩
  next => obtain rfl := Option.some.inj h; exact ⟨hlevel.2, hperiod.1, hperiod.2, hduty.1, hduty.2⟩
  next => exact nomatch h

theorem LampMode.InRange.level_le {m : LampMode} (h : m.InRange) : m.level ≤ 15 := by
  cases m with
  | off => exact Nat.zero_le 15
  | steady | follow => exact h
  | flash => exact h.1
  | beat => exact h.1

section

variable {l : Lamp} (h : l.InRange)

include h

/-- A flash that begins lasts its duration, and one crystal period more after a period start (R166; entry 37). -/
theorem Lamp.InRange.takeResult (begun : Bool) (r : Result) : (l.takeResult begun r).InRange := by
  obtain ⟨hmode, honTime⟩ := id h
  unfold Lamp.takeResult
  split
  next level d set n hflash =>
    rw [hflash] at hmode
    obtain ⟨hlevel, hlow, hhigh, -⟩ := hmode
    split
    next => exact ⟨⟨hlevel, hlow, hhigh, by rw [flashPeriods_eq]; split <;> omega⟩, honTime⟩
    next => exact h
  next => exact h

/-- A flash remaining only falls otherwise (R166). -/
theorem Lamp.InRange.modFlash {f : Nat → Nat} (hf : ∀ n, f n ≤ n) : (l.modFlash f).InRange := by
  obtain ⟨hmode, honTime⟩ := id h
  unfold Lamp.modFlash
  split
  next level d set n hflash =>
    rw [hflash] at hmode
    obtain ⟨hlevel, hlow, hhigh, hn⟩ := hmode
    exact ⟨⟨hlevel, hlow, hhigh, (hf n).trans hn⟩, honTime⟩
  next => exact h

/-- An on-time is a part of the PWM period by its level, which is 15 at most (R163). -/
theorem Lamp.InRange.evaluate (tl : Timeline) (down : Bool) : (l.evaluate tl down).InRange := by
  obtain ⟨hmode, -⟩ := h
  have hlevel := hmode.level_le
  refine ⟨hmode, ?_⟩
  dsimp only [Lamp.evaluate]
  unfold onTimeOf
  split <;> omega

end

/-- Every lamp of the part is in range. -/
def Play.LampsInRange (p : Play) : Prop := ∀ (i : StationId) (j : PanelId), ((p.lamps.get i).get j).InRange

/-- The lamps of one station, changed one by one to lamps in range. -/
theorem Play.LampsInRange.modLamps {p : Play} (h : p.LampsInRange) (i : StationId) {f : PanelId → Lamp → Lamp}
    (hf : ∀ j l, l.InRange → (f j l).InRange) : (p.modLamps i f).LampsInRange := fun k j => by
  rw [Play.modLamps, Four.get_modify]
  split
  next => rw [Nine.get_mapIdx]; exact hf j _ (h i j)
  next => exact h k j

theorem Play.LampsInRange.setLamps {p : Play} (h : p.LampsInRange) (set : LaneSet) {mode : LampMode} (hm : mode.InRange)
    (is : List StationId) : (p.setLamps set mode is).LampsInRange := by
  induction is generalizing p with
  | nil => exact h
  | cons i is ih =>
    refine ih (h.modLamps i fun j l hl => ?_)
    split <;> [exact ⟨hm, hl.2⟩; exact hl]

theorem get_evaluateLamps (p : Play) (downs : Four (Nine Bool)) (i : StationId) (j : PanelId) :
    ((evaluateLamps p downs).get i).get j
      = ((p.lamps.get i).get j).evaluate p.timeline ((p.station i).laneDown (downs.get i) j) := by
  have hrow : (evaluateLamps p downs).get i = evaluateRow p.timeline (p.station i) (downs.get i) (p.lamps.get i) := by
    match i with
    | 0 | 1 | 2 | 3 => rfl
  rw [hrow, evaluateRow, Nine.get_mapIdx]

theorem Play.LampsInRange.evaluate {p : Play} (h : p.LampsInRange) (downs : Four (Nine Bool)) (i : StationId)
    (j : PanelId) : (((evaluateLamps p downs).get i).get j).InRange := by
  rw [get_evaluateLamps]
  exact (h i j).evaluate _ _

theorem Lamp.dark_inRange : Lamp.dark.InRange := ⟨trivial, Nat.zero_le _⟩

theorem Play.LampsInRange.of_lamps {p q : Play} (h : p.LampsInRange) (hq : q.lamps = p.lamps) : q.LampsInRange :=
  fun i j => hq ▸ h i j

theorem Play.lamps_autoStop (p : Play) : p.autoStop.lamps = p.lamps := by
  unfold Play.autoStop
  split <;> rfl

theorem Play.lamps_abortTests (p : Play) : p.abortTests.lamps = p.lamps := by
  rw [Play.abortTests_eq, Play.abortTestByRules]
  split <;> rfl

theorem Play.lamps_abortStations (p : Play) (is : List StationId) : (p.abortStations is).1.lamps = p.lamps := by
  obtain ⟨f, q, h⟩ := p.abortAll_frame is
  rw [Play.abortStations_eq, h]

theorem PlayMove.lampsInRange {i : StationId} {p q : Play} (h : PlayMove i p q) (hp : p.LampsInRange) :
    q.LampsInRange := by
  cases h with
  | report | station => exact hp
  | lamps m r =>
    intro k j
    rw [Play.lamp_lampResult]
    split <;> [exact (hp k j).takeResult _ _; exact hp k j]
  | clear => exact hp.of_lamps (p.finish i .cleared).lamps_autoStop
  | fail => exact hp.of_lamps (p.discardFinish i .failed).lamps_autoStop

theorem PlayMoves.lampsInRange {i : StationId} {p q : Play} (h : PlayMoves i p q) (hp : p.LampsInRange) :
    q.LampsInRange := h.keeps (fun _ _ => PlayMove.lampsInRange) hp

/-- Every change a command makes of the play blocks keeps the lamps in range. -/
theorem PlayChange.lampsInRange {p q : Play} (h : PlayChange p q) (hp : p.LampsInRange) : q.LampsInRange := by
  cases h with
  | settle i hm _ => exact hm.lampsInRange hp
  | setLamps set f mode named hmode => exact hp.setLamps set (lampMode_inRange hmode) named
  | evaluate downs => exact hp.evaluate downs
  | flashTick =>
    intro i j
    change ((p.lamps.map fun row => row.map (Lamp.modFlash fun n => n - 1)).get i |>.get j).InRange
    rw [Four.get_map, Nine.get_map]
    exact (hp i j).modFlash fun n => Nat.sub_le n 1
  | flashEnd i j =>
    intro k l
    change ((p.lamps.modify i fun row => row.modify j (Lamp.modFlash fun _ => 0)).get k |>.get l).InRange
    rw [Four.get_modify]
    split
    next =>
      rw [Nine.get_modify]
      split <;> [exact (hp i j).modFlash Nat.zero_le; exact hp i l]
    next => exact hp k l
  | configJudge f named _ _ =>
    exact hp.of_lamps (congrArg Play.lamps (p.configJudge_frame (judgeSettings f) named) :)
  | block i down covered notes _ _ =>
    have hjoin : (p.joinNotes i notes).LampsInRange := by
      rw [Play.joinNotes_eq]
      exact hp
    rw [Play.takeBlock_eq]
    exact (p.blockJoined_moves i down notes).lampsInRange hjoin
  | abort named => exact hp.of_lamps ((Play.lamps_abortTests _).trans (p.lamps_abortStations named))
  | stopPlay _ => exact hp.of_lamps (p.lamps_abortStations _)
  | resetPlay =>
    intro i j
    change ((p.lamps.map fun row => row.map fun l : Lamp => { l with mode := .off }).get i |>.get j).InRange
    rw [Four.get_map, Nine.get_map]
    exact ⟨trivial, (hp i j).2⟩
  | restart cause =>
    intro i j
    rw [show (Play.reset cause).lamps.get i = .all .dark from Four.get_all _ _, Nine.get_all]
    exact Lamp.dark_inRange
  | report | sendReport | clearLost | configReports | configScoring | configHolds | configTiming | load | clear | chartEnd
  | stopWaiting | await | start | startPending | startLost | sourceLoss | sourceReturn | holdoverEdge | noteEdge
  | lossTick | accumulate | holdoverTick | setLock | step | afterStep => exact hp

end Sys2Proof.Machine

namespace Sys2Proof.Machine

/-! ### Panels, scanner and lamp chain as one (R131, R145, R182) -/

/-- The panel units, the scanner and the lamp chain of a part. -/
abbrev State.parts (s : State) : Four PanelStation × Scanner × LampDrive := (s.panels, s.scanner, s.drive)

/-- A station's channels, its loads and its stamp are in range (section 7.2). -/
abbrev ScanStation.InRange (st : ScanStation) : Prop :=
  InTimeRange st.stamp ∧ ∀ j : PanelId, st.loads.get j ≤ 16380 ∧ ∀ c ∈ (st.channels.get j).toList, c.InRange

/-- Every panel unit, the scanner and the lamp chain are in range. -/
structure State.PartsInRange (s : State) : Prop where
  units : ∀ i, (s.panelStation i).InRange
  scanner : s.scanner.InRange
  drive : s.drive.InRange

theorem clampTime_inTimeRange (t : Int) : InTimeRange (clampTime t) :=
  ⟨le_max_left _ _, max_le (by decide) (min_le_left _ _)⟩

theorem Scanner.InRange.moveStamp {sc : Scanner} (h : sc.InRange) (n : Int) : (sc.moveStamp n).InRange := by
  obtain ⟨hlearn, hblock, hcount, -, hstations⟩ := id h
  unfold Scanner.moveStamp
  split <;> [exact ⟨hlearn, hblock, hcount, clampTime_inTimeRange _, hstations⟩; exact h]

theorem Scanner.InRange.setStation {sc : Scanner} (h : sc.InRange) (i : StationId) {st : ScanStation} (hst : st.InRange) :
    Scanner.InRange { sc with stations := sc.stations.set i st } := by
  obtain ⟨hlearn, hblock, hcount, hstamp, hstations⟩ := h
  refine ⟨hlearn, hblock, hcount, hstamp, fun k => ?_⟩
  dsimp only
  rw [Four.get_set]
  split <;> [exact hst; exact hstations k]

/-- The two counters return to 0 from the top of their ranges (R132). -/
theorem Scanner.InRange.finishStation {sc : Scanner} (h : sc.InRange) (i : StationId) : (sc.finishStation i).InRange := by
  obtain ⟨hlearn, hblock, hrest⟩ := h
  rw [Scanner.finishStation_eq]
  refine ⟨?_, ?_, hrest⟩
  · dsimp only; split <;> [exact hlearn; (split <;> omega)]
  · dsimp only; split <;> [exact hblock; (split <;> omega)]

/-- A station's channels changed one by one to channels in range. -/
theorem ScanStation.InRange.mapChannels {st : ScanStation} (h : st.InRange) {f : Channel → Channel}
    (hf : ∀ c, c.InRange → (f c).InRange) :
    ScanStation.InRange { st with channels := st.channels.map fun four => four.map f } := by
  obtain ⟨hstamp, hpanels⟩ := h
  refine ⟨hstamp, fun j => ⟨(hpanels j).1, fun c hc => ?_⟩⟩
  dsimp only at hc
  rw [Nine.get_map, Four.mem_toList] at hc
  obtain ⟨k, rfl⟩ := hc
  rw [Four.get_map]
  exact hf _ ((hpanels j).2 _ (Four.mem_toList.mpr ⟨k, rfl⟩))

/-- A completed scan leaves a station's channels and loads in range, under the stamp of the scan (R132, R135). -/
theorem State.scannedStation_inRange {s : State} (h : s.scanner.InRange) (i : StationId) (samples : Samples) :
    (s.scannedStation i samples).InRange := by
  obtain ⟨-, -, -, hstamp, hstations⟩ := h
  have hscanned : ∀ (j : PanelId), ∀ c ∈ ((s.scannedChannels i samples).get j).toList, c.InRange := fun j c hc => by
    obtain ⟨k, rfl⟩ := Four.mem_toList.mp hc
    rw [State.scannedChannels, get_scanChannels]
    exact ((hstations i).2 j).2 _ (Four.mem_toList.mpr ⟨k, rfl⟩) |>.scan _ _
  refine ⟨hstamp, fun j => ⟨?_, fun c hc => ?_⟩⟩
  · rw [State.scannedStation, Nine.get_map]
    refine panelLoad_le fun c hc => ?_
    obtain ⟨-, -, -, hload⟩ := hscanned j c hc
    exact hload
  · obtain ⟨k, rfl⟩ := Four.mem_toList.mp hc
    have hk := hscanned j _ (Four.mem_toList.mpr ⟨k, rfl⟩)
    rw [State.scannedStation, State.endedChannels]
    split <;> [(rw [get_endBlock]; exact hk.blockEnd); exact hk]

/-! ### What the shared operations keep -/

namespace State.PartsInRange

variable {s t : State} (h : s.PartsInRange)

include h

theorem of_parts (ht : t.parts = s.parts) : t.PartsInRange := by
  obtain ⟨hunits, hscanner, hdrive⟩ := h
  simp only [Prod.mk.injEq] at ht
  obtain ⟨epanels, escanner, edrive⟩ := ht
  exact ⟨fun i => by rw [State.panelStation, epanels]; exact hunits i, escanner ▸ hscanner, edrive ▸ hdrive⟩

/-- The panel unit's work keeps its ranges, with a stamp in range. -/
theorem of_work {i : StationId} {stamp : Int} (hw : s.PanelWork i stamp t) (hstamp : InTimeRange stamp) :
    t.PartsInRange where
  units k := by
    by_cases hk : k = i
    · exact hk ▸ hw.inRange hstamp (h.units i)
    · exact hw.units k hk ▸ h.units k
  scanner := hw.scanner ▸ h.scanner
  drive := hw.drive ▸ h.drive

theorem scanStamp : InTimeRange s.scanner.scanStamp := by
  obtain ⟨-, -, -, hstamp, -⟩ := h.scanner
  exact hstamp

theorem scanStation (i : StationId) : (s.scanner.stations.get i).InRange := by
  obtain ⟨-, -, -, -, hstations⟩ := h.scanner
  exact hstations i

theorem mapUnits {f : PanelStation → PanelStation} (hf : ∀ ps, ps.InRange → (f ps).InRange) :
    State.PartsInRange { s with panels := s.panels.map f } where
  units i := by rw [State.panelStation, Four.get_map]; exact hf _ (h.units i)
  scanner := h.scanner
  drive := h.drive

theorem modPanelStation (i : StationId) {f : PanelStation → PanelStation} (hf : ∀ ps, ps.InRange → (f ps).InRange) :
    (s.modPanelStation i f).PartsInRange where
  units k := by
    rw [State.panelStation, State.modPanelStation, Four.get_modify]
    split <;> [exact hf _ (h.units i); exact h.units k]
  scanner := h.scanner
  drive := h.drive

theorem modStations {f : PanelStation → PanelStation} (hf : ∀ ps, ps.InRange → (f ps).InRange) (is : List StationId) :
    (modStations f is s).PartsInRange := by
  induction is generalizing s with
  | nil => exact h
  | cons i is ih => exact ih (h.modPanelStation i hf)

/-- A move of T moves the stamps within the range of T (R127, R149). -/
theorem moved (p : Play) (n : Int) : (s.moved p n).PartsInRange where
  units i := by
    obtain ⟨hpanels, hrest⟩ := h.units i
    rw [State.panelStation_moved]
    refine ⟨fun j => ?_, hrest⟩
    obtain ⟨hrun, hpanel⟩ := hpanels j
    change ((movePanels n s.panels).get i |>.panels.get j).InRange
    rw [State.panel_movePanels]
    refine ⟨?_, hpanel⟩
    change (s.panel i j).state.RunInRange at hrun
    dsimp only
    cases hst : (s.panel i j).state with
    | pressing | releasing =>
      rw [hst] at hrun
      exact ⟨clampTime_inTimeRange _, hrun.2⟩
    | stuck => rw [hst] at hrun; exact hrun
    | released | pressed | dead => trivial
  scanner := h.scanner.moveStamp n
  drive := h.drive

theorem restart (cause : ResetCause) : (s.restart cause).PartsInRange := by
  obtain ⟨-, -, -, hscanner, -, hreset⟩ := resetMeetsTheInvariants
  obtain ⟨-, -, -, hdrive⟩ := h.drive
  have hunits : ∀ i, (State.reset.panelStation i).InRange := fun i => by
    obtain ⟨-, -, -, hunit, -⟩ := hreset i
    exact hunit
  refine ⟨hunits, hscanner, ⟨Nat.zero_le _, Nat.zero_le _, Nat.zero_le _, fun i j => ⟨?_, (hdrive i j).2⟩⟩⟩
  rw [show (s.restart cause).drive.chain.get i = .all 0 from Four.get_all _ _, Nine.get_all]
  exact Nat.zero_le _

/-- A scan that begins reads a T in range (R131). -/
theorem scanStart (ht : InTimeRange s.play.timeline.t) : (scanStart s).PartsInRange := by
  obtain ⟨hunits, ⟨hlearn, hblock, -, -, hstations⟩, hdrive⟩ := h
  exact ⟨hunits, ⟨hlearn, hblock, le_refl 250, ht, hstations⟩, hdrive⟩

/-- A PWM period that begins puts the on-times of lamps in range on the chain (R163, R182). -/
theorem pwmPeriodStart (hl : s.play.LampsInRange) : (pwmPeriodStart s).PartsInRange := by
  obtain ⟨hunits, hscanner, -, -, hlatch, hdrive⟩ := h
  refine ⟨hunits, hscanner, le_refl 1000, le_refl 720, hlatch, fun i j => ⟨?_, (hdrive i j).2⟩⟩
  change (((evaluateLamps s.play s.downs).map fun row => row.map Lamp.onTime).get i |>.get j) ≤ 1000
  rw [Four.get_map, Nine.get_map]
  exact (hl.evaluate _ i j).2

theorem lampChainLatch : (lampChainLatch s).PartsInRange := by
  obtain ⟨hunits, hscanner, hcount, hshift, -, hdrive⟩ := h
  exact ⟨hunits, hscanner, hcount, hshift, le_refl 12, fun i j => ⟨(hdrive i j).1, (hdrive i j).1⟩⟩

theorem completeScan (i : StationId) (samples : Samples) : (completeScan i samples s).PartsInRange := by
  have htaken : (s.channelsTaken i samples).PartsInRange :=
    ⟨h.units, h.scanner.setStation i (s.scannedStation_inRange h.scanner i samples), h.drive⟩
  obtain ⟨hunits, hscanner, hdrive⟩ := htaken.of_work (s.scanHandled_work i samples) h.scanStamp
  rw [completeScan_eq]
  exact ⟨hunits, hscanner.finishStation i, hdrive⟩

theorem scanFreely (i : StationId) : (scanFreely i s).PartsInRange := by
  unfold Machine.scanFreely
  split <;> [exact (h.completeScan i _).of_parts rfl; exact h]

theorem scanRest : (scanRest s).PartsInRange := (((h.scanFreely 0).scanFreely 1).scanFreely 2).scanFreely 3

end State.PartsInRange

/-! ### What leaves panels, scanner and lamp chain as they are -/

section

variable (s : State)

theorem parts_chooseFrame : (chooseFrame s).parts = s.parts := by
  unfold chooseFrame
  split
  next => rfl
  next => split <;> rfl
  next => rfl
  next => rfl

theorem parts_txFrameBegin : (txFrameBegin s).parts = s.parts := by
  unfold txFrameBegin
  split <;> [exact parts_chooseFrame s; rfl]

theorem parts_txFrameEnd : (txFrameEnd s).parts = s.parts := by
  unfold txFrameEnd
  split <;> [rfl; exact parts_chooseFrame (s.modLink _)]

theorem parts_sendTick : (sendTick s).parts = s.parts := by
  unfold sendTick
  split
  next => rfl
  next => split <;> [exact parts_txFrameEnd s; rfl]

theorem parts_gapTimeout : (gapTimeout s).parts = s.parts := by
  unfold gapTimeout
  split <;> rfl

theorem parts_gapTick : (gapTick s).parts = s.parts := by
  unfold gapTick
  split
  next => rfl
  next => split <;> [exact parts_gapTimeout s; rfl]

theorem parts_sourceReturn : (sourceReturn s).parts = s.parts := by
  unfold sourceReturn
  split <;> rfl

theorem parts_holdoverTick : (holdoverTick s).parts = s.parts := by
  unfold holdoverTick
  split <;> rfl

theorem parts_ownConfigTiming (rate tolerance : BitVec 32) : (ownConfigTiming rate tolerance s).2.parts = s.parts := by
  unfold ownConfigTiming
  dsimp only
  split
  next => rfl
  next => split <;> rfl

theorem parts_ownConfigJudge (selector : Byte) (f : JudgeFields) : (ownConfigJudge selector f s).2.parts = s.parts := by
  unfold ownConfigJudge
  split
  next => rfl
  next =>
    split
    next => rfl
    next => split <;> rfl

theorem parts_ownConfigHolds (grace rollGap : BitVec 32) : (ownConfigHolds grace rollGap s).2.parts = s.parts := by
  unfold ownConfigHolds
  split <;> rfl

theorem parts_ownConfigScoring (rows : PerResult ScoreField) : (ownConfigScoring rows s).2.parts = s.parts := by
  unfold ownConfigScoring
  split <;> rfl

theorem parts_ownSetLamps (f : LampFields) : (ownSetLamps f s).2.parts = s.parts := by
  unfold ownSetLamps
  split <;> rfl

theorem parts_ownLoadStation (f : LoadFields) : (ownLoadStation f s).2.parts = s.parts := by
  unfold ownLoadStation
  split
  next => rfl
  next =>
    dsimp only
    split
    next => rfl
    next => split <;> rfl

theorem parts_ownNoteBlock (payload : List Byte) : (ownNoteBlock payload s).2.parts = s.parts := by
  unfold ownNoteBlock
  dsimp only
  split
  next => rfl
  next =>
    split
    next => rfl
    next =>
      split
      next => rfl
      next => split <;> rfl

theorem parts_admitNoteBlock (payload : List Byte) : (admitNoteBlock payload s).2.parts = s.parts := by
  unfold admitNoteBlock
  split <;> [exact parts_ownNoteBlock s payload; rfl]

theorem parts_ownChartEnd (station : Byte) (endTime : BitVec 32) : (ownChartEnd station endTime s).2.parts = s.parts := by
  unfold ownChartEnd
  split
  next => rfl
  next => split <;> rfl

theorem parts_ownAbortSong (stations : Byte) : (ownAbortSong stations s).2.parts = s.parts := by
  unfold ownAbortSong
  split <;> rfl

theorem parts_ownClearStation (station : Byte) : (ownClearStation station s).2.parts = s.parts := by
  unfold ownClearStation
  split
  next => rfl
  next => dsimp only; split <;> rfl

theorem parts_ownStopSong : (ownStopSong s).2.parts = s.parts := by
  unfold ownStopSong
  split <;> rfl

end

end Sys2Proof.Machine

namespace Sys2Proof.Machine

/-! ### The requests that reach a panel unit or the scanner -/

/-- The settings of CONFIG_PANELS are legal: clamped, with T_off below T_on (R156). -/
theorem panelSettings_legal (f : PanelFields) : (panelSettings f).Legal := by
  have htOn := clampNat_mem (show 1 ≤ 16380 by decide) f.tOn.toNat
  have hdOn := clampNat_mem (show 1 ≤ 8 by decide) f.dOn.toNat
  have hdOff := clampNat_mem (show 1 ≤ 8 by decide) f.dOff.toNat
  have hstuck := clampNat_mem (show 1 ≤ 120 by decide) f.stuckTime.toNat
  refine ⟨htOn.1, htOn.2, ?_, hdOn.1, hdOn.2, hdOff.1, hdOff.2, hstuck.1, hstuck.2⟩
  dsimp only [panelSettings]
  split <;> omega

theorem PanelStation.InRange.configure {ps : PanelStation} (h : ps.InRange) (set : LaneSet) (f : PanelFields) :
    (ps.configure set (panelSettings f) (ageSetting f)).InRange := by
  obtain ⟨hpanels, hocc, -, hrest⟩ := h
  refine ⟨fun j => ?_, hocc, (clampNat_mem (Nat.zero_le 600) _).2, hrest⟩
  obtain ⟨hrun, htimer, -⟩ := id (hpanels j)
  rw [PanelStation.configure, Nine.get_mapIdx]
  split <;> [exact ⟨hrun, htimer, panelSettings_legal f⟩; exact hpanels j]

section

variable {s : State} (h : s.PartsInRange)

include h

theorem ownConfigPanels_partsInRange (f : PanelFields) : (ownConfigPanels f s).2.PartsInRange := by
  unfold ownConfigPanels
  split <;> [exact h; exact h.modStations (fun _ hps => hps.configure _ f) _]

theorem ownConfigCombo_partsInRange (f : ComboFields) : (ownConfigCombo f s).2.PartsInRange := by
  have hhold := clampNat_mem (show 1 ≤ 10 by decide) f.holdTime.toNat
  unfold ownConfigCombo
  split
  next => exact h
  next =>
    refine h.modStations ?_ _
    rintro ps ⟨hpanels, hocc, hage, -⟩
    exact ⟨hpanels, hocc, hage, hhold.1, hhold.2, Nat.zero_le _⟩

theorem ownArmPresence_partsInRange (station : Byte) : (ownArmPresence station s).2.PartsInRange := by
  unfold ownArmPresence
  split <;> [exact h; exact h.modPanelStation _ fun _ hps => hps]

theorem ownSeedBaseline_partsInRange (station : Byte) : (ownSeedBaseline station s).2.PartsInRange := by
  unfold ownSeedBaseline
  split
  next => exact h
  next i _ =>
    split
    next => exact h
    next =>
      have hstation := h.scanStation i
      exact ⟨h.units, h.scanner.setStation i (hstation.mapChannels fun _ hc => hc), h.drive⟩

theorem ownGetFaults_partsInRange : (ownGetFaults s).2.PartsInRange := by
  obtain ⟨hunits, ⟨hlearn, hblock, hcount, hstamp, hstations⟩, hdrive⟩ := h
  refine ⟨fun i => ?_, ⟨hlearn, hblock, hcount, hstamp, fun i => ?_⟩, hdrive⟩
  · obtain ⟨hpanels, hrest⟩ := hunits i
    change (s.panels.map PanelStation.clearLatches |>.get i).InRange
    rw [Four.get_map]
    refine ⟨fun j => ?_, hrest⟩
    rw [PanelStation.clearLatches, Nine.get_map]
    exact hpanels j
  · change ScanStation.InRange (s.scanner.stations.map ScanStation.clearLatches |>.get i)
    rw [Four.get_map]
    exact ScanStation.InRange.mapChannels (hstations i) fun _ hc => hc

theorem resetPlay_partsInRange : (resetPlay s).PartsInRange :=
  (h.moved s.play.resetPlay _).mapUnits fun _ ⟨hpanels, _, hrest⟩ => ⟨hpanels, Nat.zero_le _, hrest⟩

theorem startPending_partsInRange : (startPending s).PartsInRange := by
  unfold startPending
  split <;> [exact h.moved _ _; exact h]

theorem ownStartSong_partsInRange (start : BitVec 32) : (ownStartSong start s).2.PartsInRange := by
  unfold ownStartSong
  split
  next => exact h
  next => split <;> [exact h.of_parts rfl; exact h.moved _ _]

theorem ownAnchor_partsInRange (time : BitVec 32) : (ownAnchor time s).2.PartsInRange := by
  unfold ownAnchor
  dsimp only
  split
  next => exact h
  next =>
    split
    next => exact h.of_parts rfl
    next => split <;> [exact h.of_parts rfl; exact h.moved _ _]

theorem audclkEdge_partsInRange : (audclkEdge s).PartsInRange := by
  unfold audclkEdge
  split
  next => exact h.of_parts rfl
  next =>
    dsimp only
    split
    next => exact h.of_parts rfl
    next => exact startPending_partsInRange (h.of_parts rfl)
    next => exact h.of_parts rfl

theorem lossTimerExpiry_partsInRange : (lossTimerExpiry s).PartsInRange := by
  unfold lossTimerExpiry
  split <;> [exact startPending_partsInRange (h.of_parts rfl); exact h]

theorem lossTick_partsInRange : (lossTick s).PartsInRange := by
  unfold lossTick
  split
  next => exact h
  next => split <;> [exact lossTimerExpiry_partsInRange h; exact h.of_parts rfl]

theorem pinResetRelease_partsInRange : (pinResetRelease s).PartsInRange := by
  unfold pinResetRelease
  split
  next => exact h
  next =>
    split
    next => exact State.PartsInRange.restart (s := { s with rstN := true }) (h.of_parts rfl) .pin
    next => exact h.of_parts rfl

/-- Every request of the catalogue keeps panels, scanner and lamp chain in range. -/
theorem ownerOf_partsInRange (r : Request) (b : List Byte) : (ownerOf r b s).2.PartsInRange := by
  cases r with
  | configTiming => exact h.of_parts (parts_ownConfigTiming s _ _)
  | configJudge => exact h.of_parts (parts_ownConfigJudge s _ _)
  | configHolds => exact h.of_parts (parts_ownConfigHolds s _ _)
  | configScoring => exact h.of_parts (parts_ownConfigScoring s _)
  | configPanels => exact ownConfigPanels_partsInRange h _
  | configCombo => exact ownConfigCombo_partsInRange h _
  | setLamps => exact h.of_parts (parts_ownSetLamps s _)
  | loadStation => exact h.of_parts (parts_ownLoadStation s _)
  | noteBlock => exact h.of_parts (parts_ownNoteBlock s b)
  | chartEnd => exact h.of_parts (parts_ownChartEnd s _ _)
  | abortSong => exact h.of_parts (parts_ownAbortSong s _)
  | clearStation => exact h.of_parts (parts_ownClearStation s _)
  | armPresence => exact ownArmPresence_partsInRange h _
  | seedBaseline => exact ownSeedBaseline_partsInRange h _
  | startSong => exact ownStartSong_partsInRange h _
  | stopSong => exact h.of_parts (parts_ownStopSong s)
  | anchor => exact ownAnchor_partsInRange h _
  | getStatus => exact (ownGetStatus_state (field8 b 0) (field8 b 1) s).symm ▸ h
  | getTally => exact (ownGetTally_state (field8 b 0) s).symm ▸ h
  | getResult => exact (ownGetResult_state (field8 b 0) s).symm ▸ h
  | getSensors => exact (ownGetSensors_state (field8 b 0) s).symm ▸ h
  | getFaults => exact ownGetFaults_partsInRange h
  | configReports | getLinkCounts => exact h.of_parts rfl
  | resetPlay => exact resetPlay_partsInRange h

theorem frameOwner_partsInRange (kind : Byte) (b : List Byte) : (frameOwner kind b s).2.PartsInRange := by
  unfold frameOwner
  split
  next => exact h
  next => split <;> [exact ownerOf_partsInRange h _ b; exact h.of_parts rfl]

theorem serve_partsInRange {kind tag : Byte} {owner : Owner} (ho : ∀ s, s.PartsInRange → (owner s).2.PartsInRange) :
    (serve kind tag owner s).PartsInRange := by
  have hcounted : s.counted.PartsInRange := h.of_parts rfl
  unfold serve
  dsimp only
  split <;> [exact h.of_parts rfl; exact (ho _ hcounted).of_parts rfl]

theorem rxByte_partsInRange (b : Byte) : (rxByte b s).PartsInRange := by
  unfold rxByte
  split
  next => split <;> exact h.of_parts rfl
  next => split <;> exact h.of_parts rfl
  next =>
    have hhunt : (s.modLink Link.hunt).PartsInRange := h.of_parts rfl
    dsimp only
    split
    next =>
      unfold takeFrame
      dsimp only
      split
      next => exact serve_partsInRange hhunt fun _ hs => frameOwner_partsInRange hs _ _
      next => exact hhunt.of_parts rfl
    next => exact h.of_parts rfl

end

/-! ### The panel unit's rows -/

section

variable (i : StationId) (j : PanelId) (stamp : Int) (s : State)

theorem pressConfirm_work : s.PanelWork i stamp (pressConfirm i j s) := by
  have hconfirm : ∀ run, s.PanelWork i stamp (deliver i j ((s.panel i j).confirmPress run).edge
      (s.setPanel i j ((s.panel i j).confirmPress run).panel)) := fun run =>
    (State.PanelWork.setPanel _ fun _ h => h.settled trivial _).trans (deliver_work i j stamp _ _)
  unfold pressConfirm
  dsimp only
  split
  next => split <;> [exact hconfirm _; exact .refl i stamp s]
  next => split <;> [exact hconfirm _; exact .refl i stamp s]
  next => exact .refl i stamp s

theorem releaseConfirm_work : s.PanelWork i stamp (releaseConfirm i j s) := by
  have hconfirm : ∀ run, s.PanelWork i stamp (deliver i j ((s.panel i j).confirmRelease run).edge
      (s.setPanel i j ((s.panel i j).confirmRelease run).panel)) := fun run =>
    (State.PanelWork.setPanel _ fun _ h => h.settled trivial _).trans (deliver_work i j stamp _ _)
  unfold releaseConfirm
  dsimp only
  split
  next => split <;> [exact hconfirm _; exact .refl i stamp s]
  next => split <;> [exact hconfirm _; exact .refl i stamp s]
  next => exact .refl i stamp s

theorem stuckExit_work : s.PanelWork i stamp (stuckExit i j s) := by
  unfold stuckExit
  dsimp only
  split
  next => split <;> [exact .setPanel _ fun _ h => h.settled trivial _; exact .refl i stamp s]
  next => exact .refl i stamp s

theorem panelStuck_work : s.PanelWork i stamp (panelStuck i j s) := by
  unfold panelStuck
  split <;> [exact becomeStuck_work i j stamp s _; exact .refl i stamp s]

theorem occupancyVacant_work : s.PanelWork i stamp (occupancyVacant i s) := by
  unfold occupancyVacant
  split <;> [exact becomeVacant_work i stamp s; exact .refl i stamp s]

theorem serviceCombo_work : s.PanelWork i stamp (serviceCombo i s) := by
  unfold serviceCombo
  dsimp only
  split <;> [exact fireCombo_work i stamp s; exact .refl i stamp s]

end

/-! ### Every command, and the crystal -/

theorem timeline_txFrameBegin (s : State) : (txFrameBegin s).play.timeline = s.play.timeline := by
  unfold txFrameBegin chooseFrame
  split
  next =>
    split
    next => rfl
    next => split <;> rfl
    next => rfl
    next => rfl
  next => rfl

section

variable {s : State} (h : s.PartsInRange)

include h

theorem whenLive_partsInRange {f : State → State} (hf : (f s).PartsInRange) : (whenLive f s).PartsInRange := by
  unfold whenLive
  split <;> [exact hf; exact h]

theorem request_partsInRange {kind tag : Byte} {owner : Owner} (ho : ∀ s, s.PartsInRange → (owner s).2.PartsInRange) :
    (whenLive (serve kind tag owner) s).PartsInRange := whenLive_partsInRange h (serve_partsInRange h ho)

/-- A part of the panel unit's work, with a scan's stamp. -/
theorem work_partsInRange {i : StationId} {f : State → State} (hw : s.PanelWork i s.scanner.scanStamp (f s)) :
    (whenLive f s).PartsInRange := whenLive_partsInRange h (h.of_work hw h.scanStamp)

/-- Every command keeps panels, scanner and lamp chain in range, from lamps and a T in range. -/
theorem runs_partsInRange (c : Instr) (hlamps : s.play.LampsInRange) (ht : InTimeRange s.play.timeline.t) :
    (s.runs c).PartsInRange := by
  cases c with
  | powerOn => exact State.PartsInRange.restart (s := { s with powered := true }) (h.of_parts rfl) .power
  | pinResetRelease => exact pinResetRelease_partsInRange h
  | rxByte b => exact whenLive_partsInRange h (rxByte_partsInRange h b)
  | gapTimeout => exact whenLive_partsInRange h (h.of_parts (parts_gapTimeout s))
  | configTiming tag rate tolerance =>
    exact request_partsInRange h fun s hs => hs.of_parts (parts_ownConfigTiming s rate tolerance)
  | configJudge tag selector f => exact request_partsInRange h fun s hs => hs.of_parts (parts_ownConfigJudge s selector f)
  | configHolds tag grace rollGap =>
    exact request_partsInRange h fun s hs => hs.of_parts (parts_ownConfigHolds s grace rollGap)
  | configScoring tag rows => exact request_partsInRange h fun s hs => hs.of_parts (parts_ownConfigScoring s rows)
  | configPanels tag f => exact request_partsInRange h fun _ hs => ownConfigPanels_partsInRange hs f
  | configCombo tag f => exact request_partsInRange h fun _ hs => ownConfigCombo_partsInRange hs f
  | configReports tag stations =>
    exact request_partsInRange (owner := ownConfigReports stations) h fun _ hs => hs.of_parts rfl
  | setLamps tag f => exact request_partsInRange h fun s hs => hs.of_parts (parts_ownSetLamps s f)
  | loadStation tag f => exact request_partsInRange h fun s hs => hs.of_parts (parts_ownLoadStation s f)
  | noteBlock tag payload => exact request_partsInRange h fun s hs => hs.of_parts (parts_admitNoteBlock s payload)
  | chartEnd tag station endTime =>
    exact request_partsInRange h fun s hs => hs.of_parts (parts_ownChartEnd s station endTime)
  | abortSong tag stations => exact request_partsInRange h fun s hs => hs.of_parts (parts_ownAbortSong s stations)
  | clearStation tag station => exact request_partsInRange h fun s hs => hs.of_parts (parts_ownClearStation s station)
  | armPresence tag station => exact request_partsInRange h fun _ hs => ownArmPresence_partsInRange hs station
  | seedBaseline tag station => exact request_partsInRange h fun _ hs => ownSeedBaseline_partsInRange hs station
  | startSong tag start => exact request_partsInRange h fun _ hs => ownStartSong_partsInRange hs start
  | stopSong tag => exact request_partsInRange h fun s hs => hs.of_parts (parts_ownStopSong s)
  | anchor tag time => exact request_partsInRange h fun _ hs => ownAnchor_partsInRange hs time
  | getStatus tag sect station =>
    exact request_partsInRange h fun s hs => (ownGetStatus_state sect station s).symm ▸ hs
  | getTally tag station => exact request_partsInRange h fun s hs => (ownGetTally_state station s).symm ▸ hs
  | getResult tag station => exact request_partsInRange h fun s hs => (ownGetResult_state station s).symm ▸ hs
  | getSensors tag station => exact request_partsInRange h fun s hs => (ownGetSensors_state station s).symm ▸ hs
  | getFaults tag => exact request_partsInRange h fun _ hs => ownGetFaults_partsInRange hs
  | getLinkCounts tag => exact request_partsInRange (owner := ownGetLinkCounts) h fun _ hs => hs.of_parts rfl
  | resetPlay tag => exact request_partsInRange (owner := ownResetPlay) h fun _ hs => resetPlay_partsInRange hs
  | txFrameBegin => exact whenLive_partsInRange h (h.of_parts (parts_txFrameBegin s))
  | txFrameEnd => exact whenLive_partsInRange h (h.of_parts (parts_txFrameEnd s))
  | audclkEdge => exact whenLive_partsInRange h (audclkEdge_partsInRange h)
  | holdoverTick => exact whenLive_partsInRange h (h.of_parts (parts_holdoverTick s))
  | lossTimerExpiry => exact whenLive_partsInRange h (lossTimerExpiry_partsInRange h)
  | sourceReturn => exact whenLive_partsInRange h (h.of_parts (parts_sourceReturn s))
  | noteClose | headClose | mineCheck | mineClose | effectiveEndReached | holdDeadlineReached | syntheticPress
  | syntheticRelease | rollPress | starvation | flashEnd =>
    refine whenLive_partsInRange h ?_
    exact h.of_parts rfl
  | songEndReached i =>
    exact whenLive_partsInRange (f := fun s => s.modPlay fun p => p.drainTest i) h (h.of_parts rfl)
  | scanStart => exact whenLive_partsInRange h (h.scanStart ht)
  | scanComplete i samples =>
    refine whenLive_partsInRange h ?_
    unfold scanComplete
    split <;> [exact h.completeScan i samples; exact h]
  | baselineLearn =>
    refine whenLive_partsInRange h ?_
    unfold baselineLearn
    split <;> [exact h.scanRest; exact h]
  | channelBlockEnd =>
    refine whenLive_partsInRange h ?_
    unfold channelBlockEnd
    split <;> [exact h.scanRest; exact h]
  | pressConfirm i j => exact work_partsInRange h (pressConfirm_work i j _ s)
  | releaseConfirm i j => exact work_partsInRange h (releaseConfirm_work i j _ s)
  | stuckExit i j => exact work_partsInRange h (stuckExit_work i j _ s)
  | panelStuck i j => exact work_partsInRange h (panelStuck_work i j _ s)
  | occupancyVacant i => exact work_partsInRange h (occupancyVacant_work i _ s)
  | serviceCombo i => exact work_partsInRange h (serviceCombo_work i _ s)
  | pwmPeriodStart => exact whenLive_partsInRange h (h.pwmPeriodStart hlamps)
  | lampChainLatch => exact whenLive_partsInRange h h.lampChainLatch
  | pinResetAssert | powerLoss => exact h.of_parts rfl

/-- The events a microsecond begins with: a scan, a PWM period, the latch (R130, R163, R182). -/
theorem beginMicro_partsInRange (hlamps : s.play.LampsInRange) (ht : InTimeRange s.play.timeline.t) :
    (beginMicro s).PartsInRange := by
  have hscan : (scanIfDue s).PartsInRange ∧ (scanIfDue s).play = s.play := by
    unfold scanIfDue
    split <;> [exact ⟨h.scanStart ht, rfl⟩; exact ⟨h, rfl⟩]
  have hpwm : (pwmIfDue (scanIfDue s)).PartsInRange := by
    unfold pwmIfDue
    split <;> [exact hscan.1.pwmPeriodStart (hscan.2 ▸ hlamps); exact hscan.1]
  unfold beginMicro latchIfDue
  split <;> [exact hpwm.lampChainLatch; exact hpwm]

theorem nextPeriod_partsInRange : s.nextPeriod.PartsInRange := by
  obtain ⟨hunits, hscanner, hcount, hshift, hlatch, hdrive⟩ := h
  exact ⟨hunits, hscanner, hcount, (Nat.sub_le _ 1).trans hshift, (Nat.sub_le _ 1).trans hlatch, hdrive⟩

theorem endMicro_partsInRange : (endMicro s).PartsInRange := by
  obtain ⟨hunits, ⟨hlearn, hblock, hcount, hscan⟩, hpwm, hdrive⟩ := h.of_parts (parts_holdoverTick s)
  exact ⟨hunits, ⟨hlearn, hblock, (Nat.sub_le _ 1).trans hcount, hscan⟩, (Nat.sub_le _ 1).trans hpwm, hdrive⟩

theorem onMicro_partsInRange {f : State → State} (hf : (f s).PartsInRange) : (onMicro f s).PartsInRange := by
  unfold onMicro
  split <;> [exact hf; exact h]

theorem crystalPeriod_partsInRange (hlamps : s.play.LampsInRange) (ht : InTimeRange s.play.timeline.t) :
    (crystalPeriod s).PartsInRange := by
  have hbegun : (txFrameBegin s).PartsInRange := h.of_parts (parts_txFrameBegin s)
  have hlampsBegun : (txFrameBegin s).play.LampsInRange :=
    (txFrameBegin_changes s).keeps (fun _ _ => PlayChange.lampsInRange) hlamps
  have htBegun : InTimeRange (txFrameBegin s).play.timeline.t := by rw [timeline_txFrameBegin]; exact ht
  have hopened := onMicro_partsInRange hbegun (beginMicro_partsInRange hbegun hlampsBegun htBegun)
  have hpassed := nextPeriod_partsInRange hopened
  have hclosed := onMicro_partsInRange hpassed (endMicro_partsInRange hpassed)
  exact ((lossTick_partsInRange hclosed).of_parts (parts_gapTick _)).of_parts (parts_sendTick _)

end

/-- Settles O59: the lamps by the changes of the play blocks, the other parts by every command and by the crystal period. -/
theorem everyStepKeepsPanelsChannelsAndLampsInRange : Obligations.EveryStepKeepsPanelsChannelsAndLampsInRange := by
  intro s t hs hscanner hdrive htime h
  have hlamps : s.play.LampsInRange := fun i => (hs i).2
  have hparts : s.PartsInRange := ⟨fun i => (hs i).1, hscanner, hdrive⟩
  have hlamps' : t.play.LampsInRange := step_keeps_play (fun _ _ => PlayChange.lampsInRange) h hlamps
  have hparts' : t.PartsInRange := by
    unfold step at h
    split at h
    next =>
      obtain rfl := Host.Outcome.next.inj h
      exact whenLive_partsInRange hparts (crystalPeriod_partsInRange hparts hlamps htime)
    next c rest _ =>
      rw [exec_eq_runs] at h
      obtain rfl := Host.Outcome.next.inj h
      exact runs_partsInRange (s := { s with pending := rest }) (hparts.of_parts rfl) c hlamps htime
  exact ⟨fun i => ⟨hparts'.units i, hlamps' i⟩, hparts'.scanner, hparts'.drive⟩

end Sys2Proof.Machine

/-! ## The requests of the scanner, and the switches of a station (O16, O23) -/

namespace Sys2Proof.Machine

/-! ### GET_FAULTS -/

section

variable (s : State) (i : StationId) (j : PanelId)

/-- GET_FAULTS leaves a panel but for its stuck latch (R143). -/
theorem ownGetFaults_panel : (ownGetFaults s).2.panel i j = { s.panel i j with stuckLatch := false } := by
  change ((s.panels.map PanelStation.clearLatches).get i).panels.get j = _
  rw [Four.get_map, PanelStation.clearLatches, Nine.get_map]
  rfl

theorem ownGetFaults_panelStation : (ownGetFaults s).2.panelStation i = (s.panelStation i).clearLatches :=
  Four.get_map _ _ _

theorem ownGetFaults_station :
    (ownGetFaults s).2.scanner.stations.get i = (s.scanner.stations.get i).clearLatches := Four.get_map _ _ _

end

/-- Settles O16: every latch is read before it is cleared, and the clearing keeps all else place by place. -/
theorem getFaultsReadsAndClearsTheLatches : Obligations.GetFaultsReadsAndClearsTheLatches := by
  intro tag s hr
  refine ⟨(ownGetFaults s).2, next_answered (owner := ownGetFaults) hr rfl, fun i j corner => ⟨?_, ownGetFaults_panel s i j⟩,
    fun i => ⟨?_, ?_⟩, rfl⟩
  · rw [ownGetFaults_station, ScanStation.clearLatches, Nine.get_map, Four.get_map]
  · rw [ownGetFaults_station]
    rfl
  · rw [ownGetFaults_panelStation]
    rfl

/-! ### CONFIG_REPORTS, ARM_PRESENCE and SEED_BASELINE -/

/-- The mask of the enables is the station set without its ignored bits (R187). -/
theorem codeByte_enables (b : Byte) :
    codeByte (maskNat [b.getLsbD 0, b.getLsbD 1, b.getLsbD 2, b.getLsbD 3]) = b &&& 0x0F := by
  revert b
  decide

section

variable {s : State} {b : Byte} {i : StationId}

theorem ownConfigReports_ok (b : Byte) (s : State) : ownConfigReports b s = (.ok [b &&& 0x0F], s.modPlay fun p =>
    { p with reports := { p.reports with
      pressEnables := ⟨b.getLsbD 0, b.getLsbD 1, b.getLsbD 2, b.getLsbD 3⟩ } }) := by
  rw [← codeByte_enables]
  rfl

theorem ownArmPresence_badArg (h : 3 < b.toNat) : ownArmPresence b s = (.refuse .badArg, s) := by
  simp only [ownArmPresence, stationOf_of_gt h]

theorem ownArmPresence_ok (h : b.toNat = i.val) : ownArmPresence b s =
    (.ok [flagByte (s.panelStation i).occupied], s.modPanelStation i fun ps => { ps with armed := true }) := by
  simp only [ownArmPresence, stationOf_of_eq h]

theorem ownSeedBaseline_badArg (h : 3 < b.toNat) : ownSeedBaseline b s = (.refuse .badArg, s) := by
  simp only [ownSeedBaseline, stationOf_of_gt h]

theorem ownSeedBaseline_busy (h : b.toNat = i.val) (hp : (s.play.station i).inPlay = true) :
    ownSeedBaseline b s = (.refuse .busy, s) := by
  simp only [ownSeedBaseline, stationOf_of_eq h, if_pos hp]

/-- A station's channels with every seed pending (R141). -/
def ScanStation.seeded (st : ScanStation) : ScanStation :=
  { st with channels := st.channels.map fun four => four.map fun c => { c with seedPending := true } }

theorem ownSeedBaseline_ok (h : b.toNat = i.val) (hp : ¬ (s.play.station i).inPlay = true) :
    ownSeedBaseline b s = (.ok [], s.modScan i ScanStation.seeded) := by
  simp only [ownSeedBaseline, stationOf_of_eq h, if_neg hp]
  rfl

theorem station_modScan (f : ScanStation → ScanStation) (k : StationId) :
    (s.modScan i f).scanner.stations.get k = if k = i then f (s.scanner.stations.get i) else s.scanner.stations.get k :=
  Four.get_modify _ _ _ _

end

/-- Settles O23, each request by what its owner answers. -/
theorem stationSwitchesAreSet : Obligations.StationSwitchesAreSet := by
  intro tag b s hr
  refine ⟨next_answered hr (ownConfigReports_ok b s.counted),
    fun hb => ⟨next_answered hr (ownArmPresence_badArg hb), next_answered hr (ownSeedBaseline_badArg hb)⟩,
    fun i hb => ⟨next_answered hr (ownArmPresence_ok (s := s.counted) hb), fun hplay => ?busy, fun hr1 hr2 => ?seeds⟩⟩
  case busy => exact next_answered hr (ownSeedBaseline_busy (s := s.counted) hb (Station.inPlay_iff.mpr hplay))
  case seeds =>
    have hout : ¬ (s.play.station i).inPlay = true := fun h => (Station.inPlay_iff.mp h).elim hr1 hr2
    refine ⟨s.modScan i ScanStation.seeded, next_answered hr (ownSeedBaseline_ok (s := s.counted) hb hout),
      fun k j corner => ?_, fun k => ?_, rfl⟩
    · rw [station_modScan]
      split
      next hk => rw [ScanStation.seeded, Nine.get_map, Four.get_map, hk]
      next => rfl
    · rw [station_modScan]
      split
      next hk => rw [hk]; rfl
      next => rfl

end Sys2Proof.Machine

/-! ## SCAN_START (O47) -/

namespace Sys2Proof.Machine

/-- The bus by the local µs since the scan's start (R182). -/
theorem Scanner.sel_eq {sc : Scanner} {n : Nat} (h : sc.countdown + n = 250) :
    sc.sel = if sc.countdown ≠ 0 ∧ n < 216 then n / 6 else 0 := by
  have helapsed : Config.scanPeriod - sc.countdown = n := by unfold Config.scanPeriod; omega
  unfold Scanner.sel
  rw [helapsed]
  rfl

/-- Settles O47: the scan's start is one update of the scanner, and the bus goes by the countdown from it. -/
theorem scanStartReadsTheStamp : Obligations.ScanStartReadsTheStamp := by
  intro s hlive
  refine ⟨congrArg Host.Outcome.next (whenLive_live hlive), fun n hn hcount => ?_, fun n hn hcount => ?_⟩
  · rw [Scanner.sel_eq hcount, if_pos ⟨by omega, hn⟩]
  · rw [Scanner.sel_eq hcount, if_neg (by omega)]

end Sys2Proof.Machine

/-! ## A station's scan by the rules (O48) -/

namespace Sys2Proof.Machine

/-! ### A panel's move (R147, R148, R152) -/

/-- Whether a move gives a press edge, with which the panel enters PRESSED (R147, R150). -/
def Edge.isPress : Edge → Bool
  | .press _ => true
  | .release _ => false

theorem Panel.move_eq (p : Panel) (stamp : Int) (load : Nat) : p.move stamp load =
    { panel := (p.moveByRules stamp load).1
      edge := (p.moveByRules stamp load).2
      entered := (p.moveByRules stamp load).2.any Edge.isPress } := by
  unfold Panel.move Panel.moveByRules Panel.pressRun Panel.releaseRun Panel.stuckRun
  cases p.state with
  | released =>
    dsimp only
    by_cases hload : load < p.config.tOn
    · rw [if_neg (Nat.not_le.2 hload), if_pos hload]; rfl
    · rw [if_pos (Nat.not_lt.1 hload), if_neg hload]; split <;> rfl
  | pressing run n =>
    dsimp only
    by_cases hload : load < p.config.tOn
    · rw [if_neg (Nat.not_le.2 hload), if_pos hload]; rfl
    · rw [if_pos (Nat.not_lt.1 hload), if_neg hload]; split <;> rfl
  | pressed =>
    dsimp only
    by_cases hload : load < p.config.tOff
    · rw [if_pos hload, if_neg (Nat.not_le.2 hload)]; split <;> rfl
    · rw [if_neg hload, if_pos (Nat.not_lt.1 hload)]; rfl
  | releasing run n =>
    dsimp only
    by_cases hload : load < p.config.tOff
    · rw [if_pos hload, if_neg (Nat.not_le.2 hload)]; split <;> rfl
    · rw [if_neg hload, if_pos (Nat.not_lt.1 hload)]; rfl
  | stuck n =>
    dsimp only
    by_cases hload : load < p.config.tOff
    · rw [if_pos hload, if_neg (Nat.not_le.2 hload)]; split <;> rfl
    · rw [if_neg hload, if_pos (Nat.not_lt.1 hload)]; rfl
  | dead => rfl

section

variable (i : StationId) (j : PanelId) (stamp : Int) (s : State)

/-- A FAULT report of a panel is queued with T as it stands (R183). -/
theorem report_fault (e : FaultEvent) : s.report (.fault i j.val e) =
    { s with play := { s.play with reports := s.play.reports.push ⟨s.play.timeline.t, .fault i j.val e⟩ } } := rfl

theorem deliver_eq (e : Option Edge) : deliver i j e s = match e with
    | none => s
    | some e => s.edgeByRules i j e := by
  cases e with
  | none => rfl
  | some e => exact deliverEdge_eq s i j e

theorem advanceStuck_eq (entered : Bool) : advanceStuck i j stamp entered s =
    if entered = false ∧ (s.panel i j).isDown = true ∧ (s.play.station i).holds.get j = none then
      if (s.panel i j).config.stuckTime * 1000000 ≤ (s.panel i j).stuckTimer + 250 then becomeStuck i j stamp s
      else s.setPanel i j { s.panel i j with stuckTimer := (s.panel i j).stuckTimer + 250 }
    else s := by
  unfold advanceStuck stuckDue stuckRuns
  simp only [Bool.and_eq_true, Bool.not_eq_true', Option.isNone_iff_eq_none, ge_iff_le, decide_eq_true_eq]
  rfl

/-- A recovered channel brings a DEAD panel back at the end of the panel's scan (R154). -/
theorem panelByRules_recovered (load healthy : Nat) : s.panelByRules i j stamp load healthy true =
    recoverPanel i j (s.panelByRules i j stamp load healthy false) := by
  unfold State.panelByRules recoverPanel
  simp only [Bool.false_eq_true, false_and, if_false, true_and]

/-- A panel with no healthy channel: DEAD, once, with its release edge (R153). -/
theorem panelByRules_dead (load : Nat) : s.panelByRules i j stamp load 0 false =
    if (s.panel i j).state = .dead then s else becomeDead i j stamp s := by
  unfold becomeDead State.panelByRules
  simp only [Bool.false_eq_true, false_and, if_false, if_true, deliver_eq, report_fault]
  cases hst : (s.panel i j).state with
  | dead => rfl
  | pressed | releasing | released | pressing | stuck => exact (if_neg PanelState.noConfusion).symm

/-- A panel with a healthy channel: its move, its edge, its stuck timer (R146 to R152). -/
theorem panelByRules_load (load : Nat) {healthy : Nat} (hk : healthy ≠ 0) :
    s.panelByRules i j stamp load healthy false = takeLoad i j stamp load s := by
  unfold takeLoad State.panelByRules
  rw [advanceStuck_eq, Panel.move_eq, deliver_eq, becomeStuck_eq]
  simp only [Bool.false_eq_true, false_and, if_false, hk]
  generalize (s.panel i j).moveByRules stamp load = m
  obtain ⟨q, e⟩ := m
  cases e with
  | none => rfl
  | some e => cases e <;> rfl

/-- A panel takes its scan by the rules (R146, R154). -/
theorem takePanel_eq (scan : PanelScan) :
    takePanel i j stamp scan s = s.panelByRules i j stamp scan.load scan.healthy scan.recovered := by
  have hload : (if scan.healthy = 0 then if (s.panel i j).state = .dead then s else becomeDead i j stamp s
      else takeLoad i j stamp scan.load s) = s.panelByRules i j stamp scan.load scan.healthy false := by
    split
    next hk => rw [hk, panelByRules_dead]
    next hk => rw [panelByRules_load i j stamp s _ hk]
  unfold takePanel
  rw [hload]
  cases scan.recovered with
  | false => rfl
  | true => exact (panelByRules_recovered i j stamp s _ _).symm

/-! ### The station (R146, R157, R159) -/

theorem takePanels_eq (scans : Nine PanelScan) (js : List PanelId) : takePanels i stamp scans js s =
    js.foldl (fun u j => u.panelByRules i j stamp (scans.get j).load (scans.get j).healthy (scans.get j).recovered) s := by
  induction js generalizing s with
  | nil => rfl
  | cons j js ih => exact (ih _).trans (by rw [takePanel_eq]; rfl)

theorem agingRuns_iff (ps : PanelStation) : ps.agingRuns = true ↔
    ps.occupied = true ∧ ps.occupancyAge ≠ 0 ∧ ∀ j, (ps.panels.get j).isDown = false := by
  simp only [PanelStation.agingRuns, Bool.and_eq_true, Bool.not_eq_true', decide_eq_true_eq, Nine.any_eq_false, and_assoc]

theorem comboTouched_iff (ps : PanelStation) : ps.comboTouched = true ↔
    ∃ j, LaneSet.has ps.comboLanes j = true ∧ (ps.panels.get j).isDown = true := by
  simp [PanelStation.comboTouched, LaneSet.mem_lanes]

theorem advanceOccupancy_eq : advanceOccupancy i s = s.occupancyByRules i := by
  unfold advanceOccupancy PanelStation.vacancyDue
  simp only [agingRuns_iff, decide_eq_true_eq, ge_iff_le]
  rfl

theorem advanceCombo_eq : advanceCombo i s = s.comboByRules i := by
  unfold advanceCombo PanelStation.comboDue
  simp only [comboTouched_iff, PanelStation.comboHeld_iff, decide_eq_true_eq, ge_iff_le, fireCombo_eq]
  rfl

/-- A station's scan in the panel unit is that of the rules (R146). -/
theorem takeScan_eq (scans : Nine PanelScan) : takeScan i stamp scans s =
    ((panelIds.foldl (fun u j => u.panelByRules i j stamp (scans.get j).load (scans.get j).healthy (scans.get j).recovered) s
      ).occupancyByRules i).comboByRules i := by
  rw [takeScan, takePanels_eq, advanceOccupancy_eq, advanceCombo_eq]

end

/-! ### The panel unit does not read the scanner (R146) -/

/-- The part with another scanner. -/
def State.withScanner (s : State) (sc : Scanner) : State := { s with scanner := sc }

/-- A change of the part that neither reads nor moves the scanner. -/
def ScannerBlind (f : State → State) : Prop := ∀ (s : State) (sc : Scanner), f (s.withScanner sc) = (f s).withScanner sc

theorem ScannerBlind.comp {f g : State → State} (hf : ScannerBlind f) (hg : ScannerBlind g) :
    ScannerBlind fun s => f (g s) := fun s sc => (congrArg f (hg s sc)).trans (hf _ sc)

theorem ScannerBlind.ite {f g : State → State} {c : State → Prop} [DecidablePred c]
    (hc : ∀ (s : State) (sc : Scanner), c (s.withScanner sc) ↔ c s) (hf : ScannerBlind f) (hg : ScannerBlind g) :
    ScannerBlind fun s => if c s then f s else g s := fun s sc =>
  (if_congr (hc s sc) (hf s sc) (hg s sc)).trans (apply_ite (State.withScanner · sc) _ _ _).symm

theorem ScannerBlind.scanner {f : State → State} (hf : ScannerBlind f) (s : State) : (f s).scanner = s.scanner :=
  (congrArg State.scanner (hf s s.scanner) :)

section

variable (i : StationId) (j : PanelId) (stamp : Int)

theorem deliver_blind (e : Option Edge) : ScannerBlind (deliver i j e) := fun s sc => by
  rw [deliver_eq, deliver_eq]
  cases e with
  | none => rfl
  | some e => cases e <;> rfl

theorem becomeDead_blind : ScannerBlind (becomeDead i j stamp) := fun s sc =>
  deliver_blind i j ((s.panel i j).state.deathEdge stamp)
    ((s.setPanel i j { s.panel i j with state := .dead, stuckTimer := 0 }).report (.fault i j.val .panelDead)) sc

theorem becomeStuck_blind : ScannerBlind (becomeStuck i j stamp) := fun s sc =>
  deliver_blind i j (some (.release stamp))
    ((s.setPanel i j { s.panel i j with state := .stuck 0, stuckTimer := 0, stuckLatch := true }).report
      (.fault i j.val .panelStuck)) sc

theorem advanceStuck_blind (entered : Bool) : ScannerBlind (advanceStuck i j stamp entered) :=
  .ite (fun _ _ => Iff.rfl)
    (.ite (c := fun s => stuckDue (s.panel i j) = true) (fun _ _ => Iff.rfl) (becomeStuck_blind i j stamp) fun _ _ => rfl)
    fun _ _ => rfl

theorem takeLoad_blind (load : Nat) : ScannerBlind (takeLoad i j stamp load) := fun s sc =>
  (advanceStuck_blind i j stamp ((s.panel i j).move stamp load).entered).comp
    (deliver_blind i j ((s.panel i j).move stamp load).edge) (s.setPanel i j ((s.panel i j).move stamp load).panel) sc

theorem takePanel_blind (scan : PanelScan) : ScannerBlind (takePanel i j stamp scan) := by
  have hload : ScannerBlind fun s => if scan.healthy = 0 then if (s.panel i j).state = .dead then s else becomeDead i j stamp s
      else takeLoad i j stamp scan.load s :=
    .ite (fun _ _ => Iff.rfl) (.ite (fun _ _ => Iff.rfl) (fun _ _ => rfl) (becomeDead_blind i j stamp))
      (takeLoad_blind i j stamp scan.load)
  have hrecover : ScannerBlind (recoverPanel i j) := .ite (fun _ _ => Iff.rfl) (fun _ _ => rfl) fun _ _ => rfl
  exact .ite (fun _ _ => Iff.rfl) (hrecover.comp hload) hload

theorem takePanels_blind (scans : Nine PanelScan) (js : List PanelId) : ScannerBlind (takePanels i stamp scans js) := by
  induction js with
  | nil => exact fun _ _ => rfl
  | cons j js ih => exact ih.comp (takePanel_blind i j stamp _)

theorem advanceOccupancy_blind : ScannerBlind (advanceOccupancy i) :=
  .ite (fun _ _ => Iff.rfl)
    (.ite (c := fun s => (s.panelStation i).vacancyDue = true) (fun _ _ => Iff.rfl) (fun _ _ => rfl) fun _ _ => rfl) fun _ _ => rfl

theorem fireCombo_blind : ScannerBlind (fireCombo i) := fun s sc => by rw [fireCombo_eq, fireCombo_eq]; rfl

theorem advanceCombo_blind : ScannerBlind (advanceCombo i) :=
  .ite (fun _ _ => Iff.rfl) (fun _ _ => rfl) <| .ite (fun _ _ => Iff.rfl)
    (.ite (c := fun s => (s.panelStation i).comboTouched = true) (fun _ _ => Iff.rfl) (fun _ _ => rfl) fun _ _ => rfl) <|
    .ite (fun _ _ => Iff.rfl)
      (.ite (c := fun s => (s.panelStation i).comboDue = true) (fun _ _ => Iff.rfl) (fireCombo_blind i) fun _ _ => rfl)
      fun _ _ => rfl

theorem takeScan_blind (scans : Nine PanelScan) : ScannerBlind (takeScan i stamp scans) :=
  (advanceCombo_blind i).comp ((advanceOccupancy_blind i).comp (takePanels_blind i stamp scans panelIds))

end

end Sys2Proof.Machine

/-! ## SCAN_COMPLETE (O48) -/

namespace Sys2Proof.Machine

/-! ### The FAULT reports of a scan (R139, R140) -/

theorem reportFaults_eq (i : StationId) (es : List (Nat × FaultEvent)) (s : State) : reportFaults i es s =
    { s with play := { s.play with
      reports := s.play.reports.pushAll (es.map fun e => ⟨s.play.timeline.t, .fault i e.1 e.2⟩) } } := by
  induction es generalizing s with
  | nil => rfl
  | cons e es ih => exact ih _

/-- A channel's report by the change of its health. -/
theorem healthEvent_reports (r : FaultEvent → Report) (c c' : Channel) : (c.healthEvent c').toList.map r =
    if c.faulty = false ∧ c'.faulty = true then [r .channelFaulty]
    else if c.faulty = true ∧ c'.faulty = false then [r .channelRecovered]
    else [] := by
  unfold Channel.healthEvent
  cases c.faulty with
  | true => cases c'.faulty <;> rfl
  | false => cases c'.faulty <;> rfl

theorem panelEvents_eq (j : PanelId) (b a : Four Channel) : panelEvents j b a =
    corners.flatMap fun k => ((b.get k).healthEvent (a.get k)).toList.map fun e => (4 * j.val + k.val, e) := by
  simp only [corners, List.flatMap_cons, List.flatMap_nil, List.append_nil, ← List.append_assoc, ← Option.toList_map]
  rfl

/-- The reports of a station's health changes are those of the rule. -/
theorem stationEvents_reports (i : StationId) (now : Int) (b a : Nine (Four Channel)) :
    ((stationEvents b a).map fun e => (⟨now, .fault i e.1 e.2⟩ : Report)) =
      faultsByRule i now (fun j k => (b.get j).get k) (fun j k => (a.get j).get k) := by
  simp only [stationEvents, panelEvents_eq, List.map_flatMap, List.map_map]
  exact congrArg panelIds.flatMap <| funext fun j => congrArg corners.flatMap <| funext fun k =>
    healthEvent_reports (fun e => ⟨now, .fault i (4 * j.val + k.val) e⟩) _ _

/-! ### What the scanner hands over (R135, R139) -/

theorem healthyCount_eq (cs : Four Channel) : healthyCount cs = (corners.filter fun k => !(cs.get k).faulty).length := by
  rw [healthyCount, show cs.toList = corners.map cs.get from rfl, List.filter_map, List.length_map]
  rfl

theorem panelLoad_eq (cs : Four Channel) : panelLoad cs =
    4 * ((corners.filter fun k => !(cs.get k).faulty).map fun k => (cs.get k).load).sum
      / (corners.filter fun k => !(cs.get k).faulty).length := by
  rw [panelLoad, healthySum, healthyCount_eq, show cs.toList = corners.map cs.get from rfl, List.filter_map, List.map_map]
  rfl

theorem anyRecovered_eq (b a : Four Channel) :
    anyRecovered b a = corners.any fun k => (b.get k).faulty && !(a.get k).faulty := by
  simp only [corners, List.any_cons, List.any_nil, Bool.or_false, ← Bool.or_assoc]
  rfl

theorem get_handOver (scanned ended : Nine (Four Channel)) (j : PanelId) : (handOver scanned ended).get j =
    { load := panelLoad (scanned.get j)
      healthy := healthyCount (scanned.get j)
      recovered := anyRecovered (scanned.get j) (ended.get j) } := Nine.get_mapIdx _ _ _

/-! ### The channels (R132) -/

section

variable (s : State) (i : StationId) (samples : Samples) (j : PanelId) (k : Fin 4)

/-- The samples of a scan change no channel's health (R132). -/
theorem Channel.faulty_sampleByRules (c : Channel) (sample : Nat) (learning : Bool) :
    (c.sampleByRules sample learning).faulty = c.faulty := rfl

theorem get_learningPanels :
    (learningPanels s i).get j = decide (s.scanner.learnPhase = 15 ∧ (s.scanner.rested.get i).get j = true) := by
  unfold learningPanels Config.learnPhase
  split
  next h => simp [h]
  next h => simp [h]

theorem get_scannedChannels : ((s.scannedChannels i samples).get j).get k =
    (((s.scanner.stations.get i).channels.get j).get k).sampleByRules ((samples.get j).get k).toNat
      (decide (s.scanner.learnPhase = 15 ∧ (s.scanner.rested.get i).get j = true)) := by
  rw [State.scannedChannels, get_scanChannels, Channel.scan_eq, get_learningPanels]

theorem get_endedChannels : ((s.endedChannels i samples).get j).get k =
    if s.scanner.blockPos = 999 then (((s.scannedChannels i samples).get j).get k).blockByRules
    else ((s.scannedChannels i samples).get j).get k := by
  unfold State.endedChannels Config.blockEnd
  split
  next => rw [get_endBlock, Channel.blockEnd_eq]
  next => rfl

theorem panelLoad_scannedChannels : panelLoad ((s.scannedChannels i samples).get j) =
    let good := corners.filter fun k => !(((s.scanner.stations.get i).channels.get j).get k).faulty
    4 * (good.map fun k => ((((s.scanner.stations.get i).channels.get j).get k).sampleByRules ((samples.get j).get k).toNat
      (decide (s.scanner.learnPhase = 15 ∧ (s.scanner.rested.get i).get j = true))).load).sum / good.length := by
  simp only [panelLoad_eq, get_scannedChannels, Channel.faulty_sampleByRules]

/-! ### The row -/

theorem reportFaults_blind (es : List (Nat × FaultEvent)) : ScannerBlind (reportFaults i es) := fun s sc => by
  rw [reportFaults_eq, reportFaults_eq]
  rfl

/-- Beside the scanner a station's scan is its FAULT reports and the panel unit's work. -/
theorem withScanner_completeScan : (completeScan i samples s).withScanner s.scanner =
    takeScan i s.scanner.scanStamp (handOver (s.scannedChannels i samples) (s.endedChannels i samples))
      (reportFaults i (stationEvents (s.scannedChannels i samples) (s.endedChannels i samples)) s) := by
  have hblind := (takeScan_blind i s.scanner.scanStamp
    (handOver (s.scannedChannels i samples) (s.endedChannels i samples))).comp
    (reportFaults_blind i (stationEvents (s.scannedChannels i samples) (s.endedChannels i samples)))
  have hhandled : s.scanHandled i samples = (takeScan i s.scanner.scanStamp _ (reportFaults i _ s)).withScanner
    (s.channelsTaken i samples).scanner := hblind s (s.channelsTaken i samples).scanner
  rw [completeScan_eq, hhandled]
  exact (hblind s s.scanner).symm

theorem counters_last_station (hlast : ∀ k, k ≠ i → s.scanner.waiting.get k = false) :
    (completeScan i samples s).scanner.learnPhase = (if s.scanner.learnPhase = 15 then 0 else s.scanner.learnPhase + 1)
      ∧ (completeScan i samples s).scanner.blockPos = (if s.scanner.blockPos = 999 then 0 else s.scanner.blockPos + 1) := by
  have hnone : (s.scanner.waiting.set i false).any id = false := by
    rw [Four.any_eq_false]
    intro k
    rw [Four.get_set]
    split <;> [rfl; exact hlast k ‹_›]
  rw [scanner_completeScan, Scanner.finishStation_eq]
  simp only [hnone, Bool.false_eq_true, if_false, and_self]

theorem counters_other_waiting (hother : ∃ k, k ≠ i ∧ s.scanner.waiting.get k = true) :
    (completeScan i samples s).scanner.learnPhase = s.scanner.learnPhase
      ∧ (completeScan i samples s).scanner.blockPos = s.scanner.blockPos := by
  have hsome : (s.scanner.waiting.set i false).any id = true := by
    obtain ⟨k, hk, hwaits⟩ := hother
    exact (Four.any_iff _ _).2 ⟨k, by rw [Four.get_set_ne _ _ hk]; exact hwaits⟩
  rw [scanner_completeScan, Scanner.finishStation_eq]
  simp only [hsome, if_true, and_self]

end

theorem exec_scanComplete {i : StationId} {samples : Samples} {s : State} (hlive : s.live = true) :
    exec (.scanComplete i samples) s = .next (scanComplete i samples s) := congrArg _ (whenLive_live hlive)

/-- Settles O48: the channels are those of R132, the panel unit's work those of R146's order, and neither reads what the other
writes. -/
theorem scanCompleteTakesEveryChannel : Obligations.ScanCompleteTakesEveryChannel := by
  intro i samples s hlive
  rw [exec_scanComplete hlive]
  refine ⟨fun hin => congrArg _ (if_neg (by rw [hin]; exact Bool.false_ne_true)), fun hwaits => ?_⟩
  have hwork := s.scanHandled_work i samples
  have hstation : (completeScan i samples s).scanner.stations.get i = s.scannedStation i samples := by
    rw [stations_completeScan, Four.get_set_self]
  dsimp only
  refine ⟨completeScan i samples s, congrArg _ (if_pos hwaits), fun j k => ?channels, fun j => ?loads,
    by rw [hstation]; rfl, ?taken, fun k hk => ⟨?_, hwork.units k hk, hwork.stations k hk⟩,
    waiting_completeScan i samples s, ?_, ?_, ?_, counters_last_station s i samples, counters_other_waiting s i samples,
    hwork.link, hwork.drive, hwork.localTime⟩
  case channels =>
    rw [hstation]
    refine (get_endedChannels s i samples j k).trans ?_
    rw [get_scannedChannels]
  case loads =>
    rw [hstation]
    exact (Nine.get_map _ _ j).trans (panelLoad_scannedChannels s i samples j)
  case taken =>
    refine (withScanner_completeScan s i samples).trans ?_
    rw [takeScan_eq, reportFaults_eq, stationEvents_reports]
    simp only [get_handOver, panelLoad_scannedChannels, healthyCount_eq, anyRecovered_eq, get_endedChannels, get_scannedChannels,
      Channel.faulty_sampleByRules]
    rfl
  · rw [stations_completeScan, Four.get_set_ne _ _ hk]
  all_goals rw [scanner_completeScan, Scanner.finishStation_eq]

end Sys2Proof.Machine

/-! ## The scan under way ends with free samples (O49) -/

namespace Sys2Proof.Machine

/-! ### One channel (R132 to R138) -/

/-- A channel after the whole of its scan (R132, steps 1 to 5). -/
def Channel.ended (c : Channel) (sample : Nat) (learns blockEnds : Bool) : Channel :=
  if blockEnds = true then (c.sampleByRules sample learns).blockByRules else c.sampleByRules sample learns

namespace Channel

variable (c : Channel) (sample : Nat) (learns blockEnds : Bool)

theorem blockByRules_frame : c.blockByRules.raw = c.raw ∧ c.blockByRules.b16 = c.b16 ∧ c.blockByRules.railCount = 0 := by
  unfold blockByRules
  split
  next => exact ⟨rfl, rfl, rfl⟩
  next => split <;> exact ⟨rfl, rfl, rfl⟩

theorem ended_of_blockEnds : c.ended sample learns true = (c.sampleByRules sample learns).blockByRules := rfl

theorem raw_ended : (c.ended sample learns blockEnds).raw = sample := by
  cases blockEnds with
  | true => exact (c.sampleByRules sample learns).blockByRules_frame.1
  | false => rfl

/-- The learning of a scan: a seed before a sixty-fourth of the way, and neither for a FAULTY channel (R133, R134). -/
theorem b16_ended : (c.ended sample learns blockEnds).b16 =
    if c.faulty = true then c.b16
    else if c.seedPending = true then sample * 16
    else if learns = true then ((c.b16 : Int) + ((sample * 16 : Int) - c.b16).tdiv 64).toNat
    else c.b16 := by
  trans (c.sampleByRules sample learns).b16
  · cases blockEnds with
    | true => exact (c.sampleByRules sample learns).blockByRules_frame.2.1
    | false => rfl
  · unfold sampleByRules
    cases c.faulty with
    | true => simp
    | false => cases c.seedPending <;> simp

/-- The end of a block for a channel that was GOOD (R137). -/
theorem blockByRules_of_good (h : c.faulty = false) :
    c.blockByRules.faulty = decide (915 ≤ c.railCount) ∧ c.blockByRules.latch = (c.latch || decide (915 ≤ c.railCount)) := by
  unfold blockByRules
  by_cases hrails : 915 ≤ c.railCount
  · simp [h, hrails]
  · simp [h, hrails]

/-- The end of a block for a channel that was FAULTY (R138). -/
theorem blockByRules_of_faulty (h : c.faulty = true) :
    c.blockByRules.faulty = decide (10 < c.railCount) ∧ c.blockByRules.latch = c.latch
      ∧ c.blockByRules.seedPending = (c.seedPending || decide (c.railCount ≤ 10)) := by
  unfold blockByRules
  by_cases hrails : c.railCount ≤ 10
  · simp [h, hrails]
  · simp [h, hrails, Nat.not_le.1 hrails]

theorem seedPending_sampleByRules_of_faulty (h : c.faulty = true) :
    (c.sampleByRules sample learns).seedPending = c.seedPending := by
  simp [sampleByRules, h]

end Channel

/-! ### What a station's scan leaves another station (R132) -/

/-- What station `i`'s turn in the scan under way rests on is the same in both: its record, whether its samples are awaited, and
while they are, the counters and the panels RELEASED at the scan's start. -/
structure Scanner.SameTurn (i : StationId) (sc sc' : Scanner) : Prop where
  station : sc'.stations.get i = sc.stations.get i
  waiting : sc'.waiting.get i = sc.waiting.get i
  rested : sc'.rested = sc.rested
  counters : sc.waiting.get i = true → sc'.learnPhase = sc.learnPhase ∧ sc'.blockPos = sc.blockPos

theorem Scanner.SameTurn.refl (i : StationId) (sc : Scanner) : sc.SameTurn i sc := ⟨rfl, rfl, rfl, fun _ => ⟨rfl, rfl⟩⟩

theorem Scanner.SameTurn.trans {i : StationId} {sc sc' sc'' : Scanner} (h : sc.SameTurn i sc') (h' : sc'.SameTurn i sc'') :
    sc.SameTurn i sc'' where
  station := h'.station.trans h.station
  waiting := h'.waiting.trans h.waiting
  rested := h'.rested.trans h.rested
  counters hwaits := by
    obtain ⟨hphase, hpos⟩ := h.counters hwaits
    obtain ⟨hphase', hpos'⟩ := h'.counters (h.waiting.trans hwaits)
    exact ⟨hphase'.trans hphase, hpos'.trans hpos⟩

/-- The scan of another station, while this one is awaited, moves no counter. -/
theorem completeScan_sameTurn {i j : StationId} (hij : i ≠ j) (samples : Samples) (s : State) :
    s.scanner.SameTurn i (completeScan j samples s).scanner where
  station := by rw [stations_completeScan, Four.get_set_ne _ _ hij]
  waiting := by rw [waiting_completeScan, Four.get_set_ne _ _ hij]
  rested := by rw [scanner_completeScan, Scanner.finishStation_eq]
  counters hwaits := counters_other_waiting s j samples ⟨i, hij, hwaits⟩

theorem scanFreely_sameTurn {i j : StationId} (hij : i ≠ j) (s : State) : s.scanner.SameTurn i (scanFreely j s).scanner := by
  cases hj : s.scanner.waiting.get j with
  | true => rw [scanFreely_waiting hj]; exact completeScan_sameTurn hij _ s
  | false => rw [scanFreely_in hj]; exact .refl i _

/-! ### The stations in their order (entry 24) -/

/-- The scan under way ends by free samples for the stations of a list whose samples are awaited. -/
def scanEach (is : List StationId) (s : State) : State := is.foldl (fun u i => scanFreely i u) s

theorem scanRest_eq (s : State) : scanRest s = scanEach stationIds s := rfl

theorem scanEach_append (is js : List StationId) (s : State) : scanEach (is ++ js) s = scanEach js (scanEach is s) :=
  List.foldl_append

theorem scanEach_sameTurn {i : StationId} {is : List StationId} (hi : i ∉ is) (s : State) :
    s.scanner.SameTurn i (scanEach is s).scanner := by
  induction is generalizing s with
  | nil => exact .refl i _
  | cons j is ih =>
    exact (scanFreely_sameTurn (List.ne_of_not_mem_cons hi) s).trans (ih (List.not_mem_of_not_mem_cons hi) _)

/-- Each station of the scan has its own turn: those before it and after it leave what its turn rests on. -/
theorem scanRest_turn (i : StationId) (s : State) : ∃ u : State, s.scanner.SameTurn i u.scanner
    ∧ (scanFreely i u).scanner.SameTurn i (scanRest s).scanner := by
  obtain ⟨before, later, hsplit⟩ := List.append_of_mem (mem_stationIds i)
  have hnodup : (before ++ i :: later).Nodup := hsplit ▸ nodup_stationIds
  obtain ⟨hbefore, hlater⟩ : i ∉ before ∧ i ∉ later := by
    rw [List.nodup_middle, List.nodup_cons, List.mem_append, not_or] at hnodup
    exact hnodup.1
  refine ⟨scanEach before s, scanEach_sameTurn hbefore s, ?_⟩
  rw [scanRest_eq, hsplit, scanEach_append]
  exact scanEach_sameTurn hlater _

theorem waiting_scanRest (i : StationId) (s : State) : (scanRest s).scanner.waiting.get i = false := by
  obtain ⟨u, -, hlater⟩ := scanRest_turn i s
  rw [hlater.waiting]
  cases hwaits : u.scanner.waiting.get i with
  | true =>
    rw [scanFreely_waiting hwaits]
    exact (congrArg (Four.get · i) (waiting_completeScan i _ u)).trans (Four.get_set_self _ _ _)
  | false => rw [scanFreely_in hwaits, hwaits]

/-- A station whose samples are in stands. -/
theorem station_scanRest_in {i : StationId} {s : State} (hin : s.scanner.waiting.get i = false) :
    (scanRest s).scanner.stations.get i = s.scanner.stations.get i := by
  obtain ⟨u, hbefore, hlater⟩ := scanRest_turn i s
  rw [hlater.station, scanFreely_in (hbefore.waiting.trans hin), hbefore.station]

/-- A station whose samples are awaited is taken through its scan with some samples. -/
theorem channel_scanRest_waiting {i : StationId} {s : State} (hwaits : s.scanner.waiting.get i = true) (j : PanelId)
    (k : Fin 4) : ∃ sample : BitVec 12, (((scanRest s).scanner.stations.get i).channels.get j).get k =
      (((s.scanner.stations.get i).channels.get j).get k).ended sample.toNat
        (decide (s.scanner.learnPhase = 15 ∧ (s.scanner.rested.get i).get j = true)) (decide (s.scanner.blockPos = 999)) := by
  obtain ⟨u, hbefore, hlater⟩ := scanRest_turn i s
  obtain ⟨hphase, hpos⟩ := hbefore.counters hwaits
  have hturn : (scanFreely i u).scanner.stations.get i = u.scannedStation i (freeSamples u.draws) := by
    rw [scanFreely_waiting (hbefore.waiting.trans hwaits)]
    exact (congrArg (Four.get · i) (stations_completeScan i _ u)).trans (Four.get_set_self _ _ _)
  refine ⟨((freeSamples u.draws).get j).get k, ?_⟩
  rw [hlater.station, hturn, ← hbefore.station, ← hbefore.rested, ← hphase, ← hpos]
  refine (get_endedChannels u i _ j k).trans ?_
  rw [get_scannedChannels]
  simp only [Channel.ended, decide_eq_true_eq]

/-! ### The draws and the supply -/

theorem live_completeScan (i : StationId) (samples : Samples) (s : State) : (completeScan i samples s).live = s.live :=
  (congrArg State.live (s.scanHandled_work i samples).frame :)

theorem live_scanFreely (i : StationId) (s : State) : (scanFreely i s).live = s.live := by
  cases hwaits : s.scanner.waiting.get i with
  | true => rw [scanFreely_waiting hwaits]; exact live_completeScan i _ s
  | false => rw [scanFreely_in hwaits]

/-- Each station whose samples were awaited has used one draw. -/
theorem draws_scanEach {is : List StationId} (hnodup : is.Nodup) (s : State) :
    (scanEach is s).draws = s.draws + (is.filter s.scanner.waiting.get).length := by
  induction is generalizing s with
  | nil => rfl
  | cons i is ih =>
    obtain ⟨hi, his⟩ := List.nodup_cons.1 hnodup
    have hrest : is.filter (scanFreely i s).scanner.waiting.get = is.filter s.scanner.waiting.get :=
      List.filter_congr fun k hk => (scanFreely_sameTurn (ne_of_mem_of_not_mem hk hi) s).waiting
    refine (ih his (scanFreely i s)).trans ?_
    rw [hrest]
    cases hwaits : s.scanner.waiting.get i with
    | true =>
      rw [scanFreely_waiting hwaits, List.filter_cons_of_pos hwaits, List.length_cons]
      dsimp only
      omega
    | false => rw [scanFreely_in hwaits, List.filter_cons_of_neg (by rw [hwaits]; exact Bool.false_ne_true)]

/-! ### The rows -/

/-- A station's free scan is its SCAN_COMPLETE (entry 24). -/
theorem scanFreely_runs (i : StationId) {s : State} (hlive : s.live = true) : scanFreely i s =
    if s.scanner.waiting.get i = true then { s.runs (.scanComplete i (freeSamples s.draws)) with draws := s.draws + 1 } else s := by
  unfold scanFreely
  split
  next hwaits =>
    rw [State.runs_live hlive (.scanComplete i (freeSamples s.draws)) rfl, scanComplete, if_pos hwaits]
  next => rfl

theorem scanEach_runs (is : List StationId) {s : State} (hlive : s.live = true) : scanEach is s =
    is.foldl (fun (u : State) i =>
      if u.scanner.waiting.get i = true then { u.runs (.scanComplete i (freeSamples u.draws)) with draws := u.draws + 1 }
      else u) s := by
  induction is generalizing s with
  | nil => rfl
  | cons i is ih => exact (ih ((live_scanFreely i s).trans hlive)).trans (by rw [scanFreely_runs i hlive]; rfl)

/-- Settles O49: the turn of a station is its own, with the counters as the row found them. -/
theorem learningAndBlockEndChangeTheChannels : Obligations.LearningAndBlockEndChangeTheChannels := by
  intro s hlive
  have hlearn : exec .baselineLearn s = .next (baselineLearn s) := congrArg _ (whenLive_live hlive)
  have hblock : exec .channelBlockEnd s = .next (channelBlockEnd s) := congrArg _ (whenLive_live hlive)
  dsimp only
  rw [← scanEach_runs stationIds hlive, hlearn, hblock]
  refine ⟨fun h => congrArg _ (if_neg h), fun h => congrArg _ (if_neg h), fun h => congrArg _ (if_pos h),
    fun h => congrArg _ (if_pos h), draws_scanEach nodup_stationIds s, fun i j k => ⟨waiting_scanRest i s, fun hin => ?_,
    fun hwaits => ?_⟩⟩
  · rw [← scanRest_eq, station_scanRest_in hin]
  · obtain ⟨sample, hended⟩ := channel_scanRest_waiting hwaits j k
    rw [← scanRest_eq, hended, Channel.raw_ended]
    generalize ((s.scanner.stations.get i).channels.get j).get k = c
    have hraw : sample.toNat ≤ 4095 := by omega
    refine ⟨hraw, fun hphase => ?_, fun hpos => ?_⟩
    · rw [Channel.b16_ended]
      simp only [hphase, true_and, decide_eq_true_eq]
    · rw [decide_eq_true hpos, Channel.ended_of_blockEnds]
      refine ⟨(Channel.blockByRules_frame _).2.2, fun hgood => Channel.blockByRules_of_good _ hgood, fun hfaulty => ?_⟩
      rw [← c.seedPending_sampleByRules_of_faulty sample.toNat _ hfaulty]
      exact Channel.blockByRules_of_faulty _ hfaulty

end Sys2Proof.Machine

/-! ## CONFIG_PANELS and CONFIG_COMBO (O21, O22) -/

namespace Sys2Proof.Machine

/-! ### A change made to the named stations -/

/-- A change of panel units leaves everything else of the part. -/
theorem modStations_frame (f : PanelStation → PanelStation) (is : List StationId) (s : State) :
    { modStations f is s with panels := s.panels } = s := by
  induction is generalizing s with
  | nil => rfl
  | cons i is ih => exact congrArg (fun t : State => { t with panels := s.panels }) (ih (s.modPanelStation i f))

/-- The count of the frame and a change of panel units do not touch each other. -/
theorem modStations_counted (f : PanelStation → PanelStation) (is : List StationId) (s : State) :
    modStations f is s.counted = (modStations f is s).counted := by
  induction is generalizing s with
  | nil => rfl
  | cons i is ih => exact ih (s.modPanelStation i f)

/-- Each station named once takes the change once, and the others stand. -/
theorem panelStation_modStations (f : PanelStation → PanelStation) {is : List StationId} (hnodup : is.Nodup) (s : State)
    (k : StationId) :
    (modStations f is s).panelStation k = if k ∈ is then f (s.panelStation k) else s.panelStation k := by
  induction is generalizing s with
  | nil => rfl
  | cons i is ih =>
    obtain ⟨hi, his⟩ := List.nodup_cons.1 hnodup
    rw [modStations, ih his]
    by_cases hk : k = i
    · subst hk
      rw [if_neg hi, if_pos List.mem_cons_self, State.panelStation_modPanelStation]
    · have hstands : (s.modPanelStation i f).panelStation k = s.panelStation k := Four.get_modify_ne _ _ hk
      simp only [hstands, List.mem_cons, hk, false_or]

/-! ### The stored values -/

/-- A panel lies in the lane set of a 16-bit field by the field's own bit. -/
theorem has_laneField (w : BitVec 16) (j : PanelId) : LaneSet.has (laneField w) j = w.getLsbD j.val := by
  rw [LaneSet.has, laneField, BitVec.getLsbD_setWidth, decide_eq_true j.isLt, Bool.true_and]

theorem laneBytes_laneField (w : BitVec 16) : laneBytes (laneField w) = leBytes 2 (w.toNat % 512) := by
  rw [laneBytes, laneField, BitVec.toNat_setWidth]

theorem panelSettings_eq (f : PanelFields) : panelSettings f =
    { tOn := max 1 (min 16380 f.tOn.toNat)
      tOff := if max 1 (min 16380 f.tOn.toNat) ≤ min 16379 f.tOff.toNat then max 1 (min 16380 f.tOn.toNat) - 1
        else min 16379 f.tOff.toNat
      dOn := max 1 (min 8 f.dOn.toNat), dOff := max 1 (min 8 f.dOff.toNat)
      stuckTime := max 1 (min 120 f.stuckTime.toNat) } := by
  simp only [panelSettings, clampNat, Nat.zero_max, ge_iff_le]

theorem ageSetting_eq (f : PanelFields) : ageSetting f = min 600 f.occupancyAge.toNat := Nat.zero_max _

/-- A configured unit has its panels and its age changed alone. -/
theorem PanelStation.configure_frame (set : LaneSet) (c : PanelConfig) (age : Nat) (ps : PanelStation) :
    { ps.configure set c age with panels := ps.panels } = { ps with occupancyAge := age } := rfl

theorem PanelStation.panel_configure (set : LaneSet) (c : PanelConfig) (age : Nat) (ps : PanelStation) (j : PanelId) :
    (ps.configure set c age).panels.get j =
      if LaneSet.has set j then { ps.panels.get j with config := c } else ps.panels.get j := Nine.get_mapIdx _ _ _

/-- The combo settings taken, with the combo READY and its timer at 0 (R160). -/
def PanelStation.comboReady (lanes : LaneSet) (hold : Nat) (abort : Bool) (ps : PanelStation) : PanelStation :=
  { ps with comboLanes := lanes, comboHold := hold, comboAbort := abort, comboTimer := 0, comboSpent := false }

/-! ### What the owners answer -/

section

variable {s : State} {named : List StationId}

theorem ownConfigPanels_badArg {f : PanelFields} (h : selected f.selector = none) :
    ownConfigPanels f s = (.refuse .badArg, s) := by
  simp only [ownConfigPanels, h]

theorem ownConfigPanels_ok {f : PanelFields} {c : PanelConfig} {age : Nat} (h : selected f.selector = some named)
    (hc : panelSettings f = c) (hage : ageSetting f = age) : ownConfigPanels f s =
      (.okClamped (decide (c ≠ ⟨f.tOn.toNat, f.tOff.toNat, f.dOn.toNat, f.dOff.toNat, f.stuckTime.toNat⟩
          ∨ age ≠ f.occupancyAge.toNat))
        (leBytes 2 c.tOn ++ leBytes 2 c.tOff ++ [codeByte c.dOn, codeByte c.dOff, codeByte c.stuckTime] ++ leBytes 2 age),
      modStations (PanelStation.configure (laneField f.panels) c age) named s) := by
  simp only [ownConfigPanels, h, panelsClamped_eq, hc, hage]

theorem ownConfigCombo_badArg {f : ComboFields} (h : selected f.selector = none) :
    ownConfigCombo f s = (.refuse .badArg, s) := by
  simp only [ownConfigCombo, h]

theorem ownConfigCombo_ok {f : ComboFields} {hold : Nat} (h : selected f.selector = some named)
    (hhold : max 1 (min 10 f.holdTime.toNat) = hold) : ownConfigCombo f s =
      (.okClamped (decide (hold ≠ f.holdTime.toNat))
        (leBytes 2 (f.lanes.toNat % 512) ++ [codeByte hold, flagByte (f.flags.getLsbD 0)]),
      modStations (PanelStation.comboReady (laneField f.lanes) hold (f.flags.getLsbD 0)) named s) := by
  subst hhold
  simp only [ownConfigCombo, h, laneBytes_laneField]
  rfl

end

/-- Settles O21: the selector's stations are configured once each, and the reply tells the values as stored. -/
theorem configPanelsStoresTheThresholds : Obligations.ConfigPanelsStoresTheThresholds := by
  intro tag f s hr tOn tOff c age
  refine ⟨fun h3 hff => next_answered hr (ownConfigPanels_badArg (selected_none h3 hff)), fun hsel => ?_⟩
  obtain ⟨named, hnamed, hnodup, hmem⟩ := selected_some hsel
  have hunit := panelStation_modStations (.configure (laneField f.panels) c age) hnodup s
  refine ⟨modStations (.configure (laneField f.panels) c age) named s, next_answered hr ?_,
    fun i => ⟨fun hi => ?named, fun hi => ?unnamed⟩, modStations_frame _ named s⟩
  · rw [← modStations_counted]
    exact ownConfigPanels_ok hnamed (panelSettings_eq f) (ageSetting_eq f)
  case named =>
    have hconf := (hunit i).trans (if_pos ((hmem i).mpr hi))
    refine ⟨?_, fun j => ?_⟩
    · rw [hconf, PanelStation.configure_frame]
    · rw [State.panel, hconf, PanelStation.panel_configure, has_laneField]
      rfl
  case unnamed => exact (hunit i).trans (if_neg (mt (hmem i).mp hi))

/-- Settles O22: the selector's stations take the combo settings once each, and the reply tells the values as stored. -/
theorem configComboMakesTheComboReady : Obligations.ConfigComboMakesTheComboReady := by
  intro tag f s hr hold
  refine ⟨fun h3 hff => next_answered hr (ownConfigCombo_badArg (selected_none h3 hff)), fun hsel => ?_⟩
  obtain ⟨named, hnamed, hnodup, hmem⟩ := selected_some hsel
  refine ⟨modStations (.comboReady (laneField f.lanes) hold (f.flags.getLsbD 0)) named s, next_answered hr ?_,
    fun i => ?_, modStations_frame _ named s⟩
  · rw [← modStations_counted]
    exact ownConfigCombo_ok hnamed rfl
  · rw [panelStation_modStations _ hnodup]
    simp only [hmem]
    rfl

end Sys2Proof.Machine

/-! ## SET_LAMPS (O24) -/

namespace Sys2Proof.Machine

/-! ### The named lamps -/

/-- The lamps of one station changed one by one, those of the others left. -/
theorem Play.lamp_modLamps (p : Play) (i k : StationId) (g : PanelId → Lamp → Lamp) (j : PanelId) :
    ((p.modLamps i g).lamps.get k).get j = if k = i then g j ((p.lamps.get k).get j) else (p.lamps.get k).get j := by
  rw [Play.modLamps, Four.get_modify]
  split
  next hk => rw [hk, Nine.get_mapIdx]
  next => rfl

/-- A lamp takes the mode when its station is named and its panel lies in the set. -/
theorem Play.lamp_setLamps (p : Play) (set : LaneSet) (mode : LampMode) {is : List StationId} (hnodup : is.Nodup)
    (k : StationId) (j : PanelId) : ((p.setLamps set mode is).lamps.get k).get j =
      if k ∈ is ∧ LaneSet.has set j = true then { (p.lamps.get k).get j with mode := mode }
      else (p.lamps.get k).get j := by
  induction is generalizing p with
  | nil => simp [Play.setLamps]
  | cons i is ih =>
    obtain ⟨hi, his⟩ := List.nodup_cons.1 hnodup
    rw [Play.setLamps, ih _ his, Play.lamp_modLamps]
    by_cases hk : k = i
    · simp [hk, hi]
    · simp [hk]

/-- SET_LAMPS changes the lamps alone. -/
theorem Play.setLamps_frame (p : Play) (set : LaneSet) (mode : LampMode) (is : List StationId) :
    { p.setLamps set mode is with lamps := p.lamps } = p := by
  induction is generalizing p with
  | nil => rfl
  | cons i is ih => exact congrArg (fun q : Play => { q with lamps := p.lamps }) (ih (p.modLamps i _))

/-! ### The mode of a request (R164) -/

section

variable {f : LampFields}

/-- The mode a request of R164 names by a code up to 4, its values brought into their ranges. -/
def askedMode (f : LampFields) : LampMode :=
  let v := min 15 f.level.toNat
  if f.mode = 0 then .off
  else if f.mode = 1 then .steady v
  else if f.mode = 2 then .follow v
  else if f.mode = 3 then .flash v (max 10 (min 1000 f.duration.toNat)) (f.results.setWidth 10) 0
  else .beat v (max 100000 (min 2000000 f.period.toNat)) (max 1 (min 4 f.duty.toNat)) f.phase.toInt

theorem lampFields_mode_cases (h : f.mode.toNat ≤ 4) :
    f.mode = 0 ∨ f.mode = 1 ∨ f.mode = 2 ∨ f.mode = 3 ∨ f.mode = 4 := by bv_omega

theorem lampMode_none (h : 4 < f.mode.toNat) : lampMode f = none := by
  obtain ⟨n, hn⟩ := Nat.exists_eq_add_of_le' h
  rw [lampMode, hn]
  rfl

theorem lampMode_some (h : f.mode.toNat ≤ 4) : lampMode f = some (askedMode f) := by
  rcases lampFields_mode_cases h with hm | hm | hm | hm | hm
    <;> simp [lampMode, askedMode, clampNat, hm]

/-- The level counts in every mode but OFF, the duration in FLASH, the period and the duty in BEAT. -/
theorem lampClamped_askedMode (h : f.mode.toNat ≤ 4) : lampClamped f (askedMode f) =
    decide (f.mode ≠ 0 ∧ min 15 f.level.toNat ≠ f.level.toNat
      ∨ f.mode = 3 ∧ max 10 (min 1000 f.duration.toNat) ≠ f.duration.toNat
      ∨ f.mode = 4 ∧ (max 100000 (min 2000000 f.period.toNat) ≠ f.period.toNat
        ∨ max 1 (min 4 f.duty.toNat) ≠ f.duty.toNat)) := by
  rcases lampFields_mode_cases h with hm | hm | hm | hm | hm
    <;> simp [lampClamped, askedMode, hm, Bool.or_assoc]

theorem code_askedMode (h : f.mode.toNat ≤ 4) : codeByte (askedMode f).code = f.mode := by
  rcases lampFields_mode_cases h with hm | hm | hm | hm | hm
    <;> simp [LampMode.code, askedMode, codeByte, hm]

/-! ### What the owner answers -/

variable {s : State} {named : List StationId}

theorem ownSetLamps_badArg (h : selected f.selector = none ∨ lampMode f = none) :
    ownSetLamps f s = (.refuse .badArg, s) := by
  unfold ownSetLamps
  split
  next hsel hmode => rw [hsel, hmode] at h; simp at h
  next => rfl

theorem ownSetLamps_ok (h : selected f.selector = some named) (hm : f.mode.toNat ≤ 4) : ownSetLamps f s =
    (.okClamped (lampClamped f (askedMode f)) ([f.mode] ++ (askedMode f).levelBytes ++ (askedMode f).settingBytes),
      s.modPlay fun p => p.setLamps (laneField f.panels) (askedMode f) named) := by
  simp only [ownSetLamps, h, lampMode_some hm, code_askedMode hm, List.singleton_append]

end

/-- Settles O24: a code or a selector that is none is refused, and the mode of the request is put into the named lamps. -/
theorem setLampsGivesTheNamedLampsTheMode : Obligations.SetLampsGivesTheNamedLampsTheMode := by
  intro tag f s hr v d p q mode clamped
  refine ⟨fun hbad => next_answered hr (ownSetLamps_badArg ?_), fun hm hsel => ?_⟩
  · exact hbad.symm.imp (fun h => selected_none h.1 h.2) lampMode_none
  · obtain ⟨named, hnamed, hnodup, hmem⟩ := selected_some hsel
    refine ⟨s.modPlay fun p => p.setLamps (laneField f.panels) (askedMode f) named, next_answered hr ?_, fun i j => ?_,
      congrArg (fun p => { s with play := p }) (s.play.setLamps_frame _ _ named)⟩
    · rw [ownSetLamps_ok (s := s.counted) hnamed hm, lampClamped_askedMode hm]
      rfl
    · simp only [State.play_modPlay, Play.lamp_setLamps _ _ _ hnodup, hmem, has_laneField]
      rfl

end Sys2Proof.Machine

/-! ## The PWM period, the lamp chain and the end of a flash (O53) -/

namespace Sys2Proof.Machine

/-! ### The places of the fixed families in order -/

theorem Four.getElem?_toList {α : Type} (f : Four α) (i : StationId) : f.toList[i.val]? = some (f.get i) := by
  match i with
  | 0 | 1 | 2 | 3 => rfl

theorem Nine.getElem?_toList {α : Type} (f : Nine α) (j : PanelId) : f.toList[j.val]? = some (f.get j) := by
  match j with
  | 0 | 1 | 2 | 3 | 4 | 5 | 6 | 7 | 8 => rfl

/-- Where each element gives a block of `k`, an element's block begins at `k` times its place. -/
theorem getElem?_flatMap_block {α β : Type} {g : α → List β} {k : Nat} (hg : ∀ a, (g a).length = k) {l : List α} {a : α}
    {i : Nat} (ha : l[i]? = some a) {b : Nat} (hb : b < k) : (l.flatMap g)[k * i + b]? = (g a)[b]? := by
  induction l generalizing i with
  | nil => cases ha
  | cons x xs ih =>
    rw [List.flatMap_cons]
    cases i with
    | zero =>
      obtain rfl := Option.some.inj ha
      rw [Nat.mul_zero, Nat.zero_add, List.getElem?_append_left (by rw [hg]; exact hb)]
    | succ i =>
      have hplace : k * (i + 1) + b - k = k * i + b := by rw [Nat.mul_succ]; omega
      rw [List.getElem?_append_right (by rw [hg, Nat.mul_succ]; omega), hg, hplace]
      exact ih ha

/-! ### The bits of a period (R182) -/

theorem tenBits_eq (n : Nat) : tenBits n = (List.range 10).map fun b => n.testBit (9 - b) := rfl

theorem length_tenBits (n : Nat) : (tenBits n).length = 10 := rfl

theorem length_rowBits (row : Nine Nat) : (row.toList.flatMap tenBits).length = 90 := rfl

/-- Bit `b` of a panel's value, the most significant first, stands behind the values of the panels before it. -/
theorem LampDrive.getElem?_ldat (d : LampDrive) (i : StationId) (j : PanelId) {b : Nat} (hb : b < 10) :
    d.ldat[90 * i.val + (10 * j.val + b)]? = some (((d.chain.get i).get j).testBit (9 - b)) := by
  have hrow : 10 * j.val + b < 90 := by omega
  rw [LampDrive.ldat, getElem?_flatMap_block length_rowBits (Four.getElem?_toList d.chain i) hrow,
    getElem?_flatMap_block length_tenBits (Nine.getElem?_toList (d.chain.get i) j) hb, tenBits_eq, List.getElem?_map,
    List.getElem?_range hb]
  rfl

/-- The `n`th bit of a period lasts two crystal periods, LCLK's low half first (R182; entry 28). -/
theorem LampDrive.bit_eq {d : LampDrive} {n : Nat} {high : Bool} (hn : n < 360)
    (h : d.shiftLeft + 2 * n + high.toNat = 720) : d.bit = (d.ldat.getD n false, high) := by
  have hhigh := Bool.toNat_le high
  have hpast : Config.chainBits * Config.lclkPeriod - d.shiftLeft = 2 * n + high.toNat := by
    unfold Config.chainBits Config.lclkPeriod; omega
  have hplace : (2 * n + high.toNat) / Config.lclkPeriod = n := by unfold Config.lclkPeriod; omega
  have hhalf : (2 * n + high.toNat) % Config.lclkPeriod = high.toNat := by unfold Config.lclkPeriod; omega
  have hlevel : decide (Config.lclkPeriod ≤ 2 * high.toNat) = high := by cases high <;> decide
  unfold LampDrive.bit
  dsimp only
  rw [if_neg (by omega), hpast, hplace, hhalf, hlevel]

theorem LampDrive.bit_rest {d : LampDrive} (h : d.shiftLeft = 0) : d.bit = (false, false) := by
  simp only [LampDrive.bit, if_pos h]

/-! ### Demand and on-time at a period start (R163, R165 to R167) -/

theorem State.get_downs (s : State) (i : StationId) (j : PanelId) : (s.downs.get i).get j = (s.panel i j).isDown := by
  rw [State.downs, Four.get_map, PanelStation.downs, Nine.get_map]
  rfl

theorem beatLit_eq (tl : Timeline) (period duty : Nat) (phase : Int) : beatLit tl period duty phase =
    decide (tl.state = .running ∧ (tl.t - phase) % (period : Int) < ((period * duty / 4 : Nat) : Int)) := by
  rw [beatLit, Bool.decide_and]
  rfl

/-- A period start evaluates each lamp by its panel, or by its synthetic lane on an autoplay station. -/
theorem lamp_pwmPeriodStart (s : State) (i : StationId) (j : PanelId) :
    ((pwmPeriodStart s).play.lamps.get i).get j = ((s.play.lamps.get i).get j).evaluate s.play.timeline
      (if (s.play.station i).autoplay then ((s.play.station i).synth.get j).pressed else (s.panel i j).isDown) := by
  rw [← State.get_downs]
  exact get_evaluateLamps s.play s.downs i j

/-- The chain takes the on-times as evaluated. -/
theorem chain_pwmPeriodStart (s : State) (i : StationId) (j : PanelId) :
    ((pwmPeriodStart s).drive.chain.get i).get j = (((pwmPeriodStart s).play.lamps.get i).get j).onTime := by
  change (((pwmPeriodStart s).play.lamps.map fun row => row.map Lamp.onTime).get i).get j = _
  rw [Four.get_map, Nine.get_map]

/-! ### The end of a flash (R166) -/

theorem Lamp.modFlash_flash {l : Lamp} {v d n : Nat} {set : ResultSet} (h : l.mode = .flash v d set n) (f : Nat → Nat) :
    l.modFlash f = { l with mode := .flash v d set (f n) } := by
  simp only [Lamp.modFlash, h]

theorem Lamp.modFlash_other {l : Lamp} (h : ∀ v d set n, l.mode ≠ .flash v d set n) (f : Nat → Nat) :
    l.modFlash f = l := by
  unfold Lamp.modFlash
  split
  next v d set n hm => exact absurd hm (h v d set n)
  next => rfl

/-- A lamp that is not in FLASH stands (entry 5). -/
theorem flashEnd_other {s : State} {i : StationId} {j : PanelId}
    (h : ∀ v d set n, ((s.play.lamps.get i).get j).mode ≠ .flash v d set n) : flashEnd i j s = s := by
  have hlamps : (s.play.lamps.modify i fun row => row.modify j (Lamp.modFlash fun _ => 0)) = s.play.lamps := by
    rw [Four.modify, Nine.modify, Lamp.modFlash_other h, Nine.set_of_get rfl, Four.set_get]
  exact congrArg (fun lamps => { s with play := { s.play with lamps := lamps } }) hlamps

/-- Settles O53: the period start, the latch and FLASH_END by what each makes of the part, the pins by the bit under way. -/
theorem lampsAreEvaluatedSentAndLatched : Obligations.LampsAreEvaluatedSentAndLatched := by
  intro s hlive
  refine ⟨⟨pwmPeriodStart s, congrArg Host.Outcome.next (whenLive_live hlive), fun i j => ?lamp, rfl, rfl, rfl, rfl, rfl,
      rfl⟩, congrArg Host.Outcome.next (whenLive_live hlive), ?llat, fun u hu => ?still, fun hrest => ?rest,
    fun i j b high hb hshift => ?bit, fun i j => ⟨fun v d set n hm => ?flash, fun hm => ?other⟩⟩
  case lamp =>
    intro l st tl down lit level on
    have hlit : l.demand tl down = lit := by
      dsimp only [lit]
      unfold Lamp.demand
      cases l.mode with
      | beat => exact beatLit_eq tl _ _ _
      | off | steady | follow | flash => rfl
    have hlevel : l.mode.level = level := rfl
    have heval : ((pwmPeriodStart s).play.lamps.get i).get j = { l with lit := lit, onTime := on } := by
      rw [lamp_pwmPeriodStart, Lamp.evaluate, hlit, hlevel]
      rfl
    exact ⟨heval, by rw [chain_pwmPeriodStart, heval]⟩
  case llat => simp only [State.pinLlat, hlive, Bool.true_and, Nat.pos_iff_ne_zero]
  case still => simp only [State.pinLdat, State.pinLclk, State.pinLlat, hu, Bool.false_and, and_self]
  case rest => simp only [State.pinLdat, State.pinLclk, LampDrive.bit_rest hrest, Bool.and_false, and_self]
  case bit =>
    have hbit : s.drive.bit = (s.drive.ldat.getD (90 * i.val + (10 * j.val + b)) false, high) :=
      LampDrive.bit_eq (by omega) (by omega)
    rw [List.getD_eq_getElem?_getD, LampDrive.getElem?_ldat _ i j hb] at hbit
    simp only [State.pinLdat, State.pinLclk, hlive, hbit, Bool.true_and, Option.getD_some, and_self]
  case flash =>
    refine congrArg Host.Outcome.next ((whenLive_live hlive).trans ?_)
    rw [flashEnd, State.modPlay, Four.modify, Nine.modify, Lamp.modFlash_flash hm]
  case other => exact congrArg Host.Outcome.next ((whenLive_live hlive).trans (flashEnd_other hm))

end Sys2Proof.Machine

/-! ## A request's frame on the line (O9) -/

namespace Sys2Proof.Machine

/-! ### Fields of a payload, read one after another -/

section

variable {xs ys : List Byte} {a : Nat}

theorem field8_head (b : Byte) (ys : List Byte) : field8 (b :: ys) 0 = b := by
  simp [field8, field, leNat]

theorem field8_behind (h : xs.length ≤ a) : field8 (xs ++ ys) a = field8 ys (a - xs.length) :=
  congrArg (BitVec.ofNat 8) (field_behind h)

theorem field16_behind (h : xs.length ≤ a) : field16 (xs ++ ys) a = field16 ys (a - xs.length) :=
  congrArg (BitVec.ofNat 16) (field_behind h)

theorem field32_behind (h : xs.length ≤ a) : field32 (xs ++ ys) a = field32 ys (a - xs.length) :=
  congrArg (BitVec.ofNat 32) (field_behind h)

theorem field8_cons (b : Byte) (ys : List Byte) (n : Nat) : field8 (b :: ys) (n + 1) = field8 ys n := rfl

theorem field16_cons (b : Byte) (ys : List Byte) (n : Nat) : field16 (b :: ys) (n + 1) = field16 ys n := rfl

theorem field32_cons (b : Byte) (ys : List Byte) (n : Nat) : field32 (b :: ys) (n + 1) = field32 ys n := rfl

theorem field16_front (v : BitVec 16) (ys : List Byte) : field16 (bvBytes 2 v ++ ys) 0 = v := by
  rw [field16, field_front rfl (length_bvBytes 2 v), ofNat_bvBytes]

theorem field32_front (v : BitVec 32) (ys : List Byte) : field32 (bvBytes 4 v ++ ys) 0 = v := by
  rw [field32, field_front rfl (length_bvBytes 4 v), bvBytes, leNat_leBytes, show 256 ^ 4 = 2 ^ 32 from rfl,
    Nat.mod_eq_of_lt v.isLt, BitVec.ofNat_toNat, BitVec.setWidth_eq]

theorem field16_whole (v : BitVec 16) : field16 (bvBytes 2 v) 0 = v := by
  rw [← List.append_nil (bvBytes 2 v), field16_front]

theorem field32_whole (v : BitVec 32) : field32 (bvBytes 4 v) 0 = v := by
  rw [← List.append_nil (bvBytes 4 v), field32_front]

end

/-! ### The payload of each request is read as the fields it was written from (R175) -/

theorem readJudge_judgePayload (selector : Byte) (f : JudgeFields) : readJudge (judgePayload selector f) = f := by
  simp [readJudge, judgePayload, List.append_assoc, field32_cons, field32_behind, field32_front, field32_whole]

theorem readScoring_scoringPayload (rows : PerResult ScoreField) : readScoring (scoringPayload rows) = rows := by
  simp [readScoring, readScore, scoringPayload, PerResult.toList, List.append_assoc, field16_behind, field16_front,
    field16_whole]

theorem readPanels_panelsPayload (f : PanelFields) : readPanels (panelsPayload f) = f := by
  simp [readPanels, panelsPayload, List.append_assoc, field8_head, field8_cons, field16_cons, field8_behind, field16_behind,
    field16_front, field16_whole]

theorem readCombo_comboPayload (f : ComboFields) : readCombo (comboPayload f) = f := by
  simp [readCombo, comboPayload, field8_head, field8_cons, field16_cons, field8_behind, field16_front]

theorem readLamps_lampsPayload (f : LampFields) : readLamps (lampsPayload f) = f := by
  simp [readLamps, lampsPayload, List.append_assoc, field8_head, field8_cons, field16_cons, field32_cons, field8_behind,
    field16_behind, field32_behind, field16_front, field32_front, field32_whole]

theorem readLoad_loadPayload (f : LoadFields) : readLoad (loadPayload f) = f := by
  simp [readLoad, loadPayload, List.append_assoc, field8_head, field8_cons, field16_cons, field32_cons, field8_behind,
    field16_behind, field32_behind, field16_front, field32_front]

/-! ### Every request is the owner of its frame (R171, R175) -/

/-- A payload of an admitted length goes to the owner of its kind. -/
theorem frameOwner_admitted {kind : Byte} {payload : List Byte} {row : CatalogueRow} (hrow : catalogueRow kind = some row)
    (hlen : row.least ≤ payload.length ∧ payload.length ≤ row.most) :
    frameOwner kind payload = ownerOf row.request payload := by
  funext s
  simp only [frameOwner, hrow, if_pos hlen]

/-- A payload of any other length is answered and counted by the link port. -/
theorem frameOwner_badLength {kind : Byte} {payload : List Byte} {row : CatalogueRow} (hrow : catalogueRow kind = some row)
    (hlen : ¬ (row.least ≤ payload.length ∧ payload.length ≤ row.most)) (s : State) :
    frameOwner kind payload s = (badLengthAnswer row.request, s.lengthError) := by
  simp only [frameOwner, hrow, if_neg hlen]

theorem frameOwner_unknown {kind : Byte} (hrow : catalogueRow kind = none) (payload : List Byte) (s : State) :
    frameOwner kind payload s = (.refuse .unknown, s) := by
  simp only [frameOwner, hrow]

/-- NOTE_BLOCK's own length check is that of its row of the catalogue. -/
theorem frameOwner_noteBlock (payload : List Byte) : frameOwner 0x11 payload = admitNoteBlock payload := by
  by_cases hlen : 15 ≤ payload.length ∧ payload.length ≤ 214
  · rw [frameOwner_admitted rfl hlen]
    funext s
    exact (if_pos hlen).symm
  · funext s
    rw [frameOwner_badLength rfl hlen]
    exact (if_neg hlen).symm

theorem served_admitted {kind tag : Byte} {payload : List Byte} {owner : Owner} {row : CatalogueRow}
    (hrow : catalogueRow kind = some row) (hlen : row.least ≤ payload.length ∧ payload.length ≤ row.most)
    (howner : ownerOf row.request payload = owner) (s : State) :
    (.next (whenLive (serve kind tag owner) s) : Host.Outcome State Fault Refusal)
      = .next (whenLive (serve kind tag (frameOwner kind payload)) s) := by
  rw [frameOwner_admitted hrow hlen, howner]

/-- A request's command is the taking of its frame: what it executes is what its kind and payload are executed as. -/
theorem exec_request {c : Instr} {f : RequestFrame} (h : requestFrame c = some f) (s : State) :
    exec c s = .next (whenLive (serve f.kind f.tag (frameOwner f.kind f.payload)) s) := by
  cases c with
  | configTiming | configHolds =>
    obtain rfl := Option.some.inj h
    exact served_admitted rfl (by simp) (by simp [ownerOf, field32_front, field32_behind, field32_whole]) s
  | configJudge tag selector f =>
    obtain rfl := Option.some.inj h
    have hselector : field8 (judgePayload selector f) 0 = selector := field8_head selector _
    exact served_admitted rfl (by simp [judgePayload]) (by simp only [ownerOf, readJudge_judgePayload, hselector]) s
  | configScoring =>
    obtain rfl := Option.some.inj h
    exact served_admitted rfl (by simp [scoringPayload, PerResult.toList])
      (by simp only [ownerOf, readScoring_scoringPayload]) s
  | configPanels =>
    obtain rfl := Option.some.inj h
    exact served_admitted rfl (by simp [panelsPayload]) (by simp only [ownerOf, readPanels_panelsPayload]) s
  | configCombo =>
    obtain rfl := Option.some.inj h
    exact served_admitted rfl (by simp [comboPayload]) (by simp only [ownerOf, readCombo_comboPayload]) s
  | setLamps =>
    obtain rfl := Option.some.inj h
    exact served_admitted rfl (by simp [lampsPayload]) (by simp only [ownerOf, readLamps_lampsPayload]) s
  | loadStation =>
    obtain rfl := Option.some.inj h
    exact served_admitted rfl (by simp [loadPayload]) (by simp only [ownerOf, readLoad_loadPayload]) s
  | noteBlock tag payload =>
    obtain rfl := Option.some.inj h
    rw [frameOwner_noteBlock]
    rfl
  | chartEnd =>
    obtain rfl := Option.some.inj h
    exact served_admitted rfl (by simp) (by simp [ownerOf, field8_head, field32_cons, field32_whole]) s
  | startSong | anchor =>
    obtain rfl := Option.some.inj h
    exact served_admitted rfl (by simp) (by simp only [ownerOf, field32_whole]) s
  | configReports | abortSong | clearStation | armPresence | seedBaseline | getStatus | getTally | getResult | getSensors =>
    obtain rfl := Option.some.inj h
    exact served_admitted rfl (by simp) (by simp only [ownerOf, field8_head, field8_cons]) s
  | stopSong | getFaults | getLinkCounts | resetPlay =>
    obtain rfl := Option.some.inj h
    exact served_admitted rfl (by exact ⟨le_rfl, le_rfl⟩) (by rfl) s
  | _ => cases h

/-! ### One byte, by the receiver's state (R170) -/

/-- The part inside a frame, the given bytes behind its SYNC received and the gap timer restarted. -/
def State.heard (s : State) (bytes : List Byte) : State :=
  { s with link := { s.link with rx := .inFrame bytes, gapTimer := 0 } }

section

variable {s : State} {b len : Byte} {rest : List Byte}

theorem rxByte_noise (hrx : s.link.rx = .hunting) (hb : b ≠ Config.sync) : rxByte b s = s := by
  simp only [rxByte, hrx, if_neg hb]

theorem rxByte_sync (hrx : s.link.rx = .hunting) : rxByte Config.sync s = s.heard [] := by
  simp only [rxByte, hrx, if_true]
  rfl

theorem rxByte_length (hrx : s.link.rx = .inFrame []) (hb : b.toNat ≤ 248) :
    rxByte b s = { s with link := { s.link with rx := .inFrame [b] } } := by
  have hfits : b.toNat ≤ Config.payloadMax := hb
  simp only [rxByte, hrx, if_pos hfits]
  rfl

theorem rxByte_badLength (hrx : s.link.rx = .inFrame []) (hb : 248 < b.toNat) :
    rxByte b s = (s.modLink Link.hunt).lengthError := by
  have hlong : ¬ b.toNat ≤ Config.payloadMax := Nat.not_le.mpr hb
  simp only [rxByte, hrx, if_neg hlong]

theorem rxByte_within (hrx : s.link.rx = .inFrame (len :: rest)) (h : rest.length + 1 < len.toNat + 4) :
    rxByte b s = s.heard (len :: rest ++ [b]) := by
  have hpart : ¬ frameComplete (len :: rest ++ [b]) = true := by simp [frameComplete]; omega
  simp only [rxByte, hrx, if_neg hpart]
  rfl

theorem rxByte_last (hrx : s.link.rx = .inFrame (len :: rest)) (h : len.toNat + 4 ≤ rest.length + 1) :
    rxByte b s = takeFrame (len :: rest ++ [b]) (s.modLink Link.hunt) := by
  have hwhole : frameComplete (len :: rest ++ [b]) = true := by simp [frameComplete]; omega
  simp only [rxByte, hrx, if_pos hwhole]

end

/-! ### The bytes of a frame, one after another (R170) -/

/-- A frame's bytes behind SYNC pass the frame check, and give its kind, its TAG and its payload. -/
theorem takeFrame_frame (kind tag : Byte) {payload : List Byte} (hlen : payload.length ≤ 248) (s : State) :
    takeFrame (codeByte payload.length :: kind :: tag :: payload
        ++ crcBytes (codeByte payload.length :: kind :: tag :: payload)) s
      = serve kind tag (frameOwner kind payload) s := by
  generalize hbody : codeByte payload.length :: kind :: tag :: payload = body
  have hcount : field (body ++ crcBytes body) 0 1 = payload.length := by
    rw [← hbody]
    exact leNat_codeByte (by omega)
  have hsize : body.length = payload.length + 3 := by simp [← hbody]
  have hkind : field8 (body ++ crcBytes body) 1 = kind := by rw [← hbody]; exact field8_head kind _
  have htag : field8 (body ++ crcBytes body) 2 = tag := by rw [← hbody]; exact field8_head tag _
  have hpayload : body.drop 3 = payload := by rw [← hbody]; rfl
  rw [takeFrame]
  simp only [hcount, ← hsize, List.take_left, List.drop_left, if_true, hkind, htag, hpayload]

section

variable {s : State} (hlive : s.live = true)

include hlive

theorem receive_cons (b : Byte) (bs : List Byte) : receive (b :: bs) s = receive bs (rxByte b s) := by
  rw [receive, execRxByte, whenLive_live hlive]

/-- Bytes that do not complete the frame are kept. -/
theorem receive_within (len : Byte) (rest bs more : List Byte) (h : rest.length + bs.length < len.toNat + 4) :
    receive (bs ++ more) (s.heard (len :: rest)) = receive more (s.heard (len :: (rest ++ bs))) := by
  induction bs generalizing rest with
  | nil => simp
  | cons b bs ih =>
    rw [List.length_cons] at h
    have hbyte : rxByte b (s.heard (len :: rest)) = s.heard (len :: (rest ++ [b])) :=
      rxByte_within (s := s.heard _) rfl (by omega)
    rw [List.cons_append, receive_cons (s := s.heard _) hlive, hbyte, ih (rest ++ [b]) (by simp; omega), List.append_assoc]
    rfl

/-- SYNC and LENGTH begin a frame. -/
theorem receive_head (hrx : s.link.rx = .hunting) {len : Byte} (hlen : len.toNat ≤ 248) (more : List Byte) :
    receive (Config.sync :: len :: more) s = receive more (s.heard [len]) := by
  rw [receive_cons hlive, rxByte_sync hrx, receive_cons (s := s.heard _) hlive, rxByte_length (s := s.heard _) rfl hlen]
  rfl

/-- A whole frame is taken with its kind, its TAG and its payload; the receiver hunts again. -/
theorem receive_frame (hrx : s.link.rx = .hunting) (kind tag : Byte) {payload : List Byte} (hlen : payload.length ≤ 248) :
    receive (frame kind tag payload) s
      = .next (serve kind tag (frameOwner kind payload) { s with link := { s.link with gapTimer := 0 } }) := by
  have hsize : (codeByte payload.length).toNat = payload.length := by simp [codeByte]; omega
  obtain ⟨c1, c2, hcheck⟩ : ∃ c1 c2, crcBytes (codeByte payload.length :: kind :: tag :: payload) = [c1, c2] :=
    ⟨_, _, rfl⟩
  have hhunt : ∀ bytes, (s.heard bytes).modLink Link.hunt = { s with link := { s.link with gapTimer := 0 } } := fun _ =>
    congrArg (fun rx => { s with link := { s.link with rx := rx, gapTimer := 0 } }) hrx.symm
  have hbytes : codeByte payload.length :: (kind :: tag :: payload ++ [c1]) ++ [c2]
      = codeByte payload.length :: kind :: tag :: payload
        ++ crcBytes (codeByte payload.length :: kind :: tag :: payload) := by simp [hcheck]
  calc receive (frame kind tag payload) s
      = receive (kind :: tag :: payload ++ [c1] ++ [c2]) (s.heard [codeByte payload.length]) := by
        rw [← receive_head hlive hrx (by omega), frame, hcheck]
        simp
    _ = receive [c2] (s.heard (codeByte payload.length :: (kind :: tag :: payload ++ [c1]))) :=
        receive_within hlive _ [] _ _ (by simp [hsize])
    _ = .next (rxByte c2 (s.heard (codeByte payload.length :: (kind :: tag :: payload ++ [c1])))) :=
        receive_cons (s := s.heard _) hlive c2 []
    _ = .next (takeFrame (codeByte payload.length :: (kind :: tag :: payload ++ [c1]) ++ [c2])
          { s with link := { s.link with gapTimer := 0 } }) := by
        rw [rxByte_last (s := s.heard _) rfl (by simp [hsize]), hhunt]
    _ = _ := by rw [hbytes, takeFrame_frame kind tag hlen]

end

/-- Every request's payload fits a frame (R169, R175). -/
theorem length_requestFrame {c : Instr} {f : RequestFrame} (h : requestFrame c = some f) (hc : c.wellFormed = true) :
    f.payload.length ≤ 248 := by
  cases c with
  | noteBlock tag payload =>
    obtain rfl := Option.some.inj h
    exact of_decide_eq_true hc
  | configTiming | configJudge | configHolds | configScoring | configPanels | configCombo | configReports | setLamps
  | loadStation | chartEnd | abortSong | clearStation | armPresence | seedBaseline | startSong | stopSong | anchor
  | getStatus | getTally | getResult | getSensors | getFaults | getLinkCounts | resetPlay =>
    obtain rfl := Option.some.inj h
    simp [judgePayload, scoringPayload, PerResult.toList, panelsPayload, comboPayload, lampsPayload, loadPayload]
  | _ => cases h

/-- Settles O9: the receiver takes the frame whole, and what it takes is what the command executes. -/
theorem wholeFrameIsExecutedAsItsRequest : Obligations.WholeFrameIsExecutedAsItsRequest := by
  intro c f s hlive hrx hc hf
  rw [RequestFrame.bytes, receive_frame hlive hrx f.kind f.tag (length_requestFrame hf hc), exec_request hf,
    whenLive_live (s := { s with link := { s.link with gapTimer := 0 } }) hlive]

end Sys2Proof.Machine

/-! ## What executing a request makes of the part (O11, O14) -/

namespace Sys2Proof.Machine

/-! ### The queue of commands and the link port across an event -/

/-- The queue of commands and the link port are the same in both states. -/
structure State.SameLine (s t : State) : Prop where
  pending : t.pending = s.pending
  link : t.link = s.link

theorem State.SameLine.refl (s : State) : s.SameLine s := ⟨rfl, rfl⟩

theorem State.SameLine.trans {s t u : State} (h : s.SameLine t) (h' : t.SameLine u) : s.SameLine u :=
  ⟨h'.pending.trans h.pending, h'.link.trans h.link⟩

/-- What executing a request can make of the part: nothing, for one that reads or is refused; a counted length error; a change that
leaves the queue of commands and the link port, answered OK; the link counters taken and cleared (R172, R176, R178). -/
inductive State.Owned (s : State) : Answer × State → Prop
  | stood (a : Answer) : s.Owned (a, s)
  | badLength (a : Answer) : s.Owned (a, s.lengthError)
  | done {a : Answer} {t : State} (ha : a.status = .ok) (h : s.SameLine t) : s.Owned (a, t)
  | counts (bytes : List Byte) : s.Owned (.ok bytes,
      (s.modLink fun l => { l with accepted := 0, crcErrors := 0, lengthErrors := 0, gapTimeouts := 0, overruns := 0 }
        ).modPlay fun p => { p with reports := { p.reports with reportsLost := 0 } })

namespace State.Owned

variable {s : State} {r : Answer × State}

theorem of_state (h : r.2 = s) : s.Owned r := by
  obtain ⟨a, t⟩ := r
  obtain rfl : t = s := h
  exact .stood a

variable (h : s.Owned r)

include h

/-- An answer that is not OK goes with a part that stands, but for a length error counted in the link port. -/
theorem frame_of_refused (ha : r.1.status ≠ .ok) : { r.2 with link := s.link } = s := by
  cases h with
  | stood | badLength => rfl
  | done hok _ => exact absurd hok ha
  | counts => exact absurd rfl ha

theorem pending : r.2.pending = s.pending := by
  cases h with
  | stood | badLength | counts => rfl
  | done _ hline => exact hline.pending

theorem replies : r.2.link.replies = s.link.replies := by
  cases h with
  | stood | badLength | counts => rfl
  | done _ hline => exact congrArg Link.replies hline.link

end State.Owned

/-! ### Each owner -/

section

variable (s : State)

theorem modStations_sameLine (f : PanelStation → PanelStation) (is : List StationId) : s.SameLine (modStations f is s) := by
  induction is generalizing s with
  | nil => exact .refl s
  | cons i is ih =>
    obtain ⟨hpending, hlink⟩ := ih (s.modPanelStation i f)
    exact ⟨hpending, hlink⟩

theorem ownConfigTiming_owned (rate tolerance : BitVec 32) : s.Owned (ownConfigTiming rate tolerance s) := by
  unfold ownConfigTiming
  dsimp only
  split
  next => exact .stood _
  next => split <;> [exact .stood _; exact .done rfl ⟨rfl, rfl⟩]

theorem ownConfigJudge_owned (selector : Byte) (f : JudgeFields) : s.Owned (ownConfigJudge selector f s) := by
  unfold ownConfigJudge
  split
  next => exact .stood _
  next =>
    split
    next => exact .stood _
    next => split <;> [exact .stood _; exact .done rfl ⟨rfl, rfl⟩]

theorem ownConfigHolds_owned (grace rollGap : BitVec 32) : s.Owned (ownConfigHolds grace rollGap s) := by
  unfold ownConfigHolds
  split <;> [exact .stood _; exact .done rfl ⟨rfl, rfl⟩]

theorem ownConfigScoring_owned (rows : PerResult ScoreField) : s.Owned (ownConfigScoring rows s) := by
  unfold ownConfigScoring
  split <;> [exact .stood _; exact .done rfl ⟨rfl, rfl⟩]

theorem ownConfigPanels_owned (f : PanelFields) : s.Owned (ownConfigPanels f s) := by
  unfold ownConfigPanels
  split <;> [exact .stood _; exact .done rfl (modStations_sameLine s _ _)]

theorem ownConfigCombo_owned (f : ComboFields) : s.Owned (ownConfigCombo f s) := by
  unfold ownConfigCombo
  split <;> [exact .stood _; exact .done rfl (modStations_sameLine s _ _)]

theorem ownSetLamps_owned (f : LampFields) : s.Owned (ownSetLamps f s) := by
  unfold ownSetLamps
  split <;> [exact .done rfl ⟨rfl, rfl⟩; exact .stood _]

theorem ownLoadStation_owned (f : LoadFields) : s.Owned (ownLoadStation f s) := by
  unfold ownLoadStation
  split
  next => exact .stood _
  next =>
    dsimp only
    split
    next => exact .stood _
    next => split <;> [exact .stood _; exact .done rfl ⟨rfl, rfl⟩]

theorem ownNoteBlock_owned (payload : List Byte) : s.Owned (ownNoteBlock payload s) := by
  unfold ownNoteBlock
  dsimp only
  split
  next => exact .stood _
  next =>
    split
    next => exact .stood _
    next =>
      split
      next => exact .badLength _
      next => split <;> [exact .stood _; exact .done rfl ⟨rfl, rfl⟩]

theorem ownChartEnd_owned (station : Byte) (endTime : BitVec 32) : s.Owned (ownChartEnd station endTime s) := by
  unfold ownChartEnd
  split
  next => exact .stood _
  next => split <;> [exact .done rfl ⟨rfl, rfl⟩; exact .stood _]

theorem ownAbortSong_owned (stations : Byte) : s.Owned (ownAbortSong stations s) := by
  unfold ownAbortSong
  split <;> [exact .stood _; exact .done rfl ⟨rfl, rfl⟩]

theorem ownClearStation_owned (station : Byte) : s.Owned (ownClearStation station s) := by
  unfold ownClearStation
  split
  next => exact .stood _
  next =>
    dsimp only
    split <;> [exact .done rfl ⟨rfl, rfl⟩; exact .stood _]

theorem ownArmPresence_owned (station : Byte) : s.Owned (ownArmPresence station s) := by
  unfold ownArmPresence
  split <;> [exact .stood _; exact .done rfl ⟨rfl, rfl⟩]

theorem ownSeedBaseline_owned (station : Byte) : s.Owned (ownSeedBaseline station s) := by
  unfold ownSeedBaseline
  split
  next => exact .stood _
  next => split <;> [exact .stood _; exact .done rfl ⟨rfl, rfl⟩]

theorem ownStartSong_owned (start : BitVec 32) : s.Owned (ownStartSong start s) := by
  unfold ownStartSong
  split
  next => exact .stood _
  next => split <;> exact .done rfl ⟨rfl, rfl⟩

theorem ownStopSong_owned : s.Owned (ownStopSong s) := by
  unfold ownStopSong
  split
  next => exact .stood _
  next => exact .done rfl ⟨rfl, rfl⟩
  next => exact .done rfl ⟨rfl, rfl⟩

theorem ownAnchor_owned (time : BitVec 32) : s.Owned (ownAnchor time s) := by
  unfold ownAnchor
  dsimp only
  split
  next => exact .stood _
  next =>
    split
    next => exact .done rfl ⟨rfl, rfl⟩
    next => split <;> exact .done rfl ⟨rfl, rfl⟩

end

/-! ### The catalogue (R171, R175) -/

/-- Every request of the catalogue does one of these. -/
theorem ownerOf_owned (r : Request) (b : List Byte) (s : State) : s.Owned (ownerOf r b s) := by
  cases r with
  | configTiming => exact ownConfigTiming_owned s _ _
  | configJudge => exact ownConfigJudge_owned s _ _
  | configHolds => exact ownConfigHolds_owned s _ _
  | configScoring => exact ownConfigScoring_owned s _
  | configPanels => exact ownConfigPanels_owned s _
  | configCombo => exact ownConfigCombo_owned s _
  | setLamps => exact ownSetLamps_owned s _
  | loadStation => exact ownLoadStation_owned s _
  | noteBlock => exact ownNoteBlock_owned s b
  | chartEnd => exact ownChartEnd_owned s _ _
  | abortSong => exact ownAbortSong_owned s _
  | clearStation => exact ownClearStation_owned s _
  | armPresence => exact ownArmPresence_owned s _
  | seedBaseline => exact ownSeedBaseline_owned s _
  | startSong => exact ownStartSong_owned s _
  | stopSong => exact ownStopSong_owned s
  | anchor => exact ownAnchor_owned s _
  | getStatus => exact .of_state (ownGetStatus_state _ _ s)
  | getTally => exact .of_state (ownGetTally_state _ s)
  | getResult => exact .of_state (ownGetResult_state _ s)
  | getSensors => exact .of_state (ownGetSensors_state _ s)
  | getLinkCounts => exact .counts _
  | configReports | getFaults | resetPlay => exact .done rfl ⟨rfl, rfl⟩

theorem frameOwner_owned (kind : Byte) (b : List Byte) (s : State) : s.Owned (frameOwner kind b s) := by
  unfold frameOwner
  split
  next => exact .stood _
  next => split <;> [exact ownerOf_owned _ b s; exact .badLength _]

/-! ### The taking of a frame (R171) -/

section

variable {kind tag : Byte} {owner : Owner} {s : State}

theorem serve_full (h : 8 ≤ s.link.replies.length) : serve kind tag owner s = { s with link := { s.link with
    accepted := satAdd s.link.accepted 1, overruns := satAdd s.link.overruns 1 } } := by
  have hfull : s.counted.link.replies.length ≥ Config.replyCapacity := h
  simp only [serve, if_pos hfull]
  rfl

theorem serve_room (h : s.link.replies.length < 8) : serve kind tag owner s
    = (owner s.counted).2.queueReply { kind := kind, tag := tag, answer := (owner s.counted).1 } := by
  have hroom : ¬ s.counted.link.replies.length ≥ Config.replyCapacity := Nat.not_le.mpr h
  simp only [serve, if_neg hroom]

end

/-- Settles O14: a reply that was queued came from an owner, and one that does not answer OK leaves the part. -/
theorem refusedRequestChangesOnlyTheLink : Obligations.RefusedRequestChangesOnlyTheLink := by
  intro c f s t r hf ht hreply hstatus
  rw [exec_request hf] at ht
  obtain rfl := Host.Outcome.next.inj ht
  by_cases hlive : s.live = true
  · rw [whenLive_live hlive] at hreply ⊢
    by_cases hroom : s.link.replies.length < 8
    · rw [serve_room hroom] at hreply ⊢
      have howned := frameOwner_owned f.kind f.payload s.counted
      obtain ⟨-, hlast⟩ := List.append_inj' hreply rfl
      obtain rfl := List.singleton_inj.mp hlast
      exact congrArg (fun u : State => { u with link := s.link }) (howned.frame_of_refused hstatus)
    · rw [serve_full (Nat.not_lt.mp hroom)] at hreply
      simp at hreply
  · rw [whenLive_still (by simpa using hlive)] at hreply
    simp at hreply

/-! ### Frames that no owner executes (R171, R173) -/

/-- A kind stands in one row of the catalogue. -/
theorem catalogueRow_of_mem {row : CatalogueRow} (h : row ∈ catalogue) {kind : Byte} (hkind : row.kind = kind.toNat) :
    catalogueRow kind = some row := by
  have hfirst : ∀ row ∈ catalogue, (catalogue.find? fun r => r.kind == row.kind) = some row := by decide
  rw [catalogueRow, ← hkind]
  exact hfirst row h

theorem catalogueRow_none {kind : Byte} (h : ∀ row ∈ catalogue, row.kind ≠ kind.toNat) : catalogueRow kind = none :=
  List.find?_eq_none.mpr fun row hrow => by simpa using h row hrow

/-- The fields of a BAD_LENGTH answer are those of R29 for NOTE_BLOCK alone. -/
theorem badLengthAnswer_eq {row : CatalogueRow} (h : row ∈ catalogue) : badLengthAnswer row.request
    = ⟨.badLength, false, if row.kind = 0x11 then [0, 0, 0, 0, 0, 0, 0, 0, 255] else []⟩ := by
  revert row
  decide

/-- Settles O11: a full reply queue before any owner, and the two answers of the link port itself. -/
theorem framesNotExecutedChangeNoOwner : Obligations.FramesNotExecutedChangeNoOwner := by
  refine ⟨fun c f s hlive hf hfull => ?full, fun kind tag payload s ⟨hlive, hroom⟩ hrx hlen =>
    ⟨fun hnone => ?unknown, fun row hrow hkind hbad => ?badLength⟩⟩
  case full =>
    rw [exec_request hf, whenLive_serve_full hlive hfull]
    rfl
  case unknown =>
    rw [receive_frame hlive hrx kind tag hlen, serve_room (s := { s with link := { s.link with gapTimer := 0 } }) hroom,
      frameOwner_unknown (catalogueRow_none hnone)]
    rfl
  case badLength =>
    rw [receive_frame hlive hrx kind tag hlen, serve_room (s := { s with link := { s.link with gapTimer := 0 } }) hroom,
      frameOwner_badLength (catalogueRow_of_mem hrow hkind) (by omega), badLengthAnswer_eq hrow]
    rfl

end Sys2Proof.Machine

/-! ## The queues and counts of the line stay within their bounds (O3, O54) -/

namespace Sys2Proof.Machine

/-! ### The report queue (R183 to R185) -/

theorem ReportQueue.Bounded.pushAll {q : ReportQueue} (h : q.Bounded) (rs : List Report) : (q.pushAll rs).Bounded := by
  induction rs generalizing q with
  | nil => exact h
  | cons r rs ih => exact ih (ReportQueue.push_bounded r h)

theorem Play.Tells.reportsBounded {p q : Play} (h : p.Tells q) (hp : p.reports.Bounded) : q.reports.Bounded := by
  obtain ⟨rs, h⟩ := h
  rw [h]
  exact hp.pushAll rs

theorem Play.tells_stopTimeline (p : Play) : p.Tells p.stopTimeline := Play.tells_report (p.modTimeline _) _

theorem Play.tells_abandonStart (p : Play) : p.Tells p.abandonStart := by
  unfold Play.abandonStart
  split <;> [exact p.tells_stopTimeline; exact .refl p]

theorem Play.tells_abortTests (p : Play) : p.Tells p.abortTests := p.tells_autoStop.trans (Play.tells_abandonStart _)

theorem Play.tells_discardFinish (p : Play) (i : StationId) (o : SongOutcome) : p.Tells (p.discardFinish i o) :=
  Play.tells_finish (p.modStation i Station.discard) o

/-- An abort of stations only queues reports (R12, R13). -/
theorem Play.tells_abortStations (p : Play) (is : List StationId) : p.Tells (p.abortStations is).1 := by
  induction is generalizing p with
  | nil => exact .refl p
  | cons i is ih =>
    have hone : p.Tells (p.abortStation i).1 := by
      unfold Play.abortStation
      split
      next => exact .refl p
      next => exact p.tells_discardFinish i .aborted
      next => exact p.tells_discardFinish i .aborted
      next => split <;> [exact p.tells_finish .cleared; exact p.tells_discardFinish i .aborted]
      next => exact .refl p
    exact hone.trans (ih _)

/-- A block queues the reports of its VOID notes, then those of what is taken at joining (R31, R64). -/
theorem Play.tells_takeBlock (p : Play) (i : StationId) (down : Nine Bool) (covered : Int) (notes : List RawNote) :
    p.Tells (p.takeBlock i down covered notes) := by
  have hjoin : p.Tells (p.joinNotes i notes) := ⟨_, congrArg Play.reports (p.joinNotes_eq i notes)⟩
  have hjoined : p.Tells (p.blockJoined i down notes) := hjoin.trans (p.blockJoined_moves i down notes).tells
  exact hjoined

theorem Play.reports_setLamps (p : Play) (set : LaneSet) (mode : LampMode) (is : List StationId) :
    (p.setLamps set mode is).reports = p.reports := by
  induction is generalizing p with
  | nil => rfl
  | cons i is ih => exact ih _

theorem Play.reports_configJudge (p : Play) (c : JudgeConfig) (is : List StationId) :
    (p.configJudge c is).reports = p.reports := by
  induction is generalizing p with
  | nil => rfl
  | cons i is ih => exact ih _

/-- Every change a command makes keeps the report queue within its bounds: what it tells is queued, and what else reaches the queue
takes the oldest record, empties the queue, or clears a count. -/
theorem PlayChange.reportsBounded {p q : Play} (h : PlayChange p q) (hp : p.reports.Bounded) : q.reports.Bounded := by
  cases h with
  | settle i hm _ => exact (PlayMoves.tells hm).reportsBounded hp
  | report b => exact (p.tells_report b).reportsBounded hp
  | sendReport r rest hrecords =>
    obtain ⟨hroom, -, hlost⟩ := hp
    rw [hrecords, List.length_cons] at hroom
    exact ⟨by dsimp only; omega, Nat.zero_le _, hlost⟩
  | clearLost =>
    obtain ⟨hroom, hpending, -⟩ := hp
    exact ⟨hroom, hpending, Nat.zero_le _⟩
  | setLamps set f mode named _ => exact (p.reports_setLamps set mode named).symm ▸ hp
  | configJudge f named _ _ => exact (p.reports_configJudge _ named).symm ▸ hp
  | load | clear | chartEnd => exact hp
  | block i down covered notes _ _ => exact (p.tells_takeBlock i down covered notes).reportsBounded hp
  | abort named => exact ((p.tells_abortStations named).trans (Play.tells_abortTests _)).reportsBounded hp
  | stopWaiting _ => exact p.tells_stopTimeline.reportsBounded hp
  | stopPlay _ => exact ((p.tells_abortStations _).trans (Play.tells_stopTimeline _)).reportsBounded hp
  | startLost | sourceLoss => exact (Play.tells_report (p.modTimeline _) _).reportsBounded hp
  | resetPlay =>
    obtain ⟨-, hcounts⟩ := hp
    exact ⟨Nat.le_add_left 1 95, hcounts⟩
  | restart cause => exact ⟨Nat.le_add_left 1 95, Nat.zero_le _, Nat.zero_le _⟩
  | configReports | evaluate | flashTick | flashEnd | configScoring | configHolds | configTiming | await | start
  | startPending | sourceReturn | holdoverEdge | noteEdge | lossTick | accumulate | holdoverTick | setLock | step
  | afterStep => exact hp

/-! ### The link port (R173, R174, R178) -/

/-- An event leaves the queue of commands alone, and keeps the link port within its bounds. -/
structure State.LineWork (s t : State) : Prop where
  pending : t.pending = s.pending
  bounded : s.link.Bounded → t.link.Bounded

theorem State.LineWork.refl (s : State) : s.LineWork s := ⟨rfl, id⟩

theorem State.LineWork.trans {s t u : State} (h : s.LineWork t) (h' : t.LineWork u) : s.LineWork u :=
  ⟨h'.pending.trans h.pending, h'.bounded ∘ h.bounded⟩

theorem State.SameLine.lineWork {s t : State} (h : s.SameLine t) : s.LineWork t := ⟨h.pending, fun hs => h.link ▸ hs⟩

section

variable (s : State)

theorem Link.reset_bounded : Link.reset.Bounded := by decide

theorem modPlay_sameLine (f : Play → Play) : s.SameLine (s.modPlay f) := ⟨rfl, rfl⟩

/-- A change of the link port that keeps its bounds. -/
theorem modLink_lineWork (f : Link → Link) (hf : s.link.Bounded → (f s.link).Bounded) : s.LineWork (s.modLink f) := ⟨rfl, hf⟩

theorem lengthError_lineWork : s.LineWork s.lengthError :=
  ⟨rfl, fun ⟨hreplies, hrun, haccepted, hcrc, _, hrest⟩ => ⟨hreplies, hrun, haccepted, hcrc, satAdd_le _ _, hrest⟩⟩

theorem State.Owned.lineWork {r : Answer × State} (h : s.Owned r) : s.LineWork r.2 := by
  cases h with
  | stood => exact .refl s
  | badLength => exact lengthError_lineWork s
  | done _ hline => exact hline.lineWork
  | counts =>
    refine ⟨rfl, fun ⟨hreplies, hrun, _⟩ => ?_⟩
    exact ⟨hreplies, hrun, Nat.zero_le _, Nat.zero_le _, Nat.zero_le _, Nat.zero_le _, Nat.zero_le _⟩

/-- The taking of a frame: an owner leaves the reply queue, which has room for the reply (R171, R173). -/
theorem serve_lineWork {kind tag : Byte} {owner : Owner} (ho : ∀ s : State, s.Owned (owner s)) :
    s.LineWork (serve kind tag owner s) := by
  by_cases hroom : s.link.replies.length < 8
  · rw [serve_room hroom]
    have howned := ho s.counted
    have hcounted : s.LineWork s.counted :=
      ⟨rfl, fun ⟨hreplies, hrun, _, hrest⟩ => ⟨hreplies, hrun, satAdd_le _ _, hrest⟩⟩
    refine ⟨howned.pending, fun hs => ?_⟩
    obtain ⟨-, hrest⟩ := (hcounted.trans howned.lineWork).bounded hs
    refine ⟨?_, hrest⟩
    rw [State.link_queueReply, howned.replies]
    simpa using hroom
  · rw [serve_full (Nat.not_lt.mp hroom)]
    refine ⟨rfl, fun ⟨hreplies, hrun, _, hcrc, hlength, hgap, _⟩ => ?_⟩
    exact ⟨hreplies, hrun, satAdd_le _ _, hcrc, hlength, hgap, satAdd_le _ _⟩

/-! ### The rows of the line (R170, R174) -/

theorem takeFrame_lineWork (bytes : List Byte) : s.LineWork (takeFrame bytes s) := by
  unfold takeFrame
  dsimp only
  split
  next => exact serve_lineWork s (frameOwner_owned _ _)
  next =>
    exact ⟨rfl, fun ⟨hreplies, hrun, haccepted, _, hrest⟩ => ⟨hreplies, hrun, haccepted, satAdd_le _ _, hrest⟩⟩

theorem rxByte_lineWork (b : Byte) : s.LineWork (rxByte b s) := by
  unfold rxByte
  split
  next => split <;> exact ⟨rfl, id⟩
  next => split <;> [exact ⟨rfl, id⟩; exact (modLink_lineWork s Link.hunt id).trans (lengthError_lineWork _)]
  next =>
    dsimp only
    split <;> [exact (modLink_lineWork s Link.hunt id).trans (takeFrame_lineWork _ _); exact ⟨rfl, id⟩]

theorem gapTimeout_lineWork : s.LineWork (gapTimeout s) := by
  unfold gapTimeout
  split
  next => exact .refl s
  next =>
    refine ⟨rfl, fun ⟨hreplies, hrun, haccepted, hcrc, hlength, _, hoverruns⟩ => ?_⟩
    exact ⟨hreplies, hrun, haccepted, hcrc, hlength, satAdd_le _ _, hoverruns⟩

/-- The transmitter's choice frees a place of the reply queue or none, and ends or continues the run of replies (R174). -/
theorem chooseFrame_lineWork : s.LineWork (chooseFrame s) := by
  have hfreed : ∀ {r : Reply} {rs : List Reply} {run : Nat}, s.link.replies = r :: rs → run ≤ 4 →
      s.LineWork (beginReply r rs run s) := fun hreplies hrun => by
    refine ⟨rfl, fun ⟨hroom, _, hcounts⟩ => ⟨?_, hrun, hcounts⟩⟩
    rw [hreplies, List.length_cons] at hroom
    exact Nat.le_of_succ_le hroom
  have hreport : ∀ (r : Report) (rs : List Report), s.LineWork (beginReport r rs s) := fun _ _ =>
    ⟨rfl, fun ⟨hroom, _, hcounts⟩ => ⟨hroom, Nat.zero_le _, hcounts⟩⟩
  unfold chooseFrame
  split
  next hreplies _ => exact hfreed hreplies (Nat.zero_le 4)
  next hreplies _ => split <;> [exact hfreed hreplies (by assumption); exact hreport _ _]
  next => exact hreport _ _
  next => exact ⟨rfl, id⟩

theorem txFrameBegin_lineWork : s.LineWork (txFrameBegin s) := by
  unfold txFrameBegin
  split <;> [exact chooseFrame_lineWork s; exact .refl s]

theorem txFrameEnd_lineWork : s.LineWork (txFrameEnd s) := by
  unfold txFrameEnd
  split
  next => exact .refl s
  next => exact (modLink_lineWork s _ id).trans (chooseFrame_lineWork _)

/-! ### The rows that leave the line alone -/

theorem startPending_sameLine : s.SameLine (startPending s) := by
  unfold startPending
  split <;> exact ⟨rfl, rfl⟩

theorem audclkEdge_sameLine : s.SameLine (audclkEdge s) := by
  unfold audclkEdge
  split
  next => exact ⟨rfl, rfl⟩
  next =>
    dsimp only
    split
    next => exact ⟨rfl, rfl⟩
    next => exact (modPlay_sameLine s _).trans (startPending_sameLine _)
    next => exact ⟨rfl, rfl⟩

theorem holdoverTick_sameLine : s.SameLine (holdoverTick s) := by
  unfold holdoverTick
  split <;> exact ⟨rfl, rfl⟩

theorem lossTimerExpiry_sameLine : s.SameLine (lossTimerExpiry s) := by
  unfold lossTimerExpiry
  split <;> [exact (modPlay_sameLine s _).trans (startPending_sameLine _); exact .refl s]

theorem sourceReturn_sameLine : s.SameLine (sourceReturn s) := by
  unfold sourceReturn
  split <;> exact ⟨rfl, rfl⟩

theorem State.PanelWork.sameLine {i : StationId} {stamp : Int} {t : State} (h : s.PanelWork i stamp t) : s.SameLine t :=
  ⟨(congrArg State.pending h.frame :), h.link⟩

theorem completeScan_sameLine (i : StationId) (samples : Samples) : s.SameLine (completeScan i samples s) := by
  obtain ⟨hpending, hlink⟩ := (s.scanHandled_work i samples).sameLine
  exact ⟨hpending, hlink⟩

theorem scanComplete_sameLine (i : StationId) (samples : Samples) : s.SameLine (scanComplete i samples s) := by
  unfold scanComplete
  split <;> [exact completeScan_sameLine s i samples; exact .refl s]

theorem scanFreely_sameLine (i : StationId) : s.SameLine (scanFreely i s) := by
  unfold scanFreely
  split <;> [exact (completeScan_sameLine s i _).trans ⟨rfl, rfl⟩; exact .refl s]

theorem scanRest_sameLine : s.SameLine (scanRest s) :=
  (((scanFreely_sameLine s 0).trans (scanFreely_sameLine _ 1)).trans (scanFreely_sameLine _ 2)).trans
    (scanFreely_sameLine _ 3)

theorem baselineLearn_sameLine : s.SameLine (baselineLearn s) := by
  unfold baselineLearn
  split <;> [exact scanRest_sameLine s; exact .refl s]

theorem channelBlockEnd_sameLine : s.SameLine (channelBlockEnd s) := by
  unfold channelBlockEnd
  split <;> [exact scanRest_sameLine s; exact .refl s]

/-! ### Every command, and the crystal -/

theorem pinResetRelease_lineWork : s.LineWork (pinResetRelease s) := by
  unfold pinResetRelease
  split
  next => exact .refl s
  next => split <;> [exact ⟨rfl, fun _ => Link.reset_bounded⟩; exact ⟨rfl, id⟩]

theorem whenLive_lineWork {f : State → State} (h : s.LineWork (f s)) : s.LineWork (whenLive f s) := by
  unfold whenLive
  split <;> [exact h; exact .refl s]

/-- Every command leaves the queue of commands alone and keeps the link port within its bounds: a request by its owner, a row of the
line by what it does there, and any other row leaves both. -/
theorem runs_lineWork (c : Instr) : s.LineWork (s.runs c) := by
  cases hf : requestFrame c with
  | some f =>
    rw [State.runs, exec_request hf]
    exact whenLive_lineWork s (serve_lineWork s (frameOwner_owned _ _))
  | none =>
    have row : ∀ {f : State → State}, s.SameLine (f s) → s.LineWork (whenLive f s) := fun h => whenLive_lineWork s h.lineWork
    cases c with
    | powerOn => exact ⟨rfl, fun _ => Link.reset_bounded⟩
    | pinResetAssert | powerLoss => exact ⟨rfl, id⟩
    | pinResetRelease => exact pinResetRelease_lineWork s
    | rxByte b => exact whenLive_lineWork s (rxByte_lineWork s b)
    | gapTimeout => exact whenLive_lineWork s (gapTimeout_lineWork s)
    | txFrameBegin => exact whenLive_lineWork s (txFrameBegin_lineWork s)
    | txFrameEnd => exact whenLive_lineWork s (txFrameEnd_lineWork s)
    | audclkEdge => exact row (audclkEdge_sameLine s)
    | holdoverTick => exact row (holdoverTick_sameLine s)
    | lossTimerExpiry => exact row (lossTimerExpiry_sameLine s)
    | sourceReturn => exact row (sourceReturn_sameLine s)
    | noteClose | headClose | mineCheck | mineClose | effectiveEndReached | holdDeadlineReached | syntheticPress
    | syntheticRelease | rollPress | starvation | scanStart | flashEnd | pwmPeriodStart | lampChainLatch =>
      refine row ?_
      exact ⟨rfl, rfl⟩
    | songEndReached i => exact row (f := fun s => s.modPlay fun p => p.drainTest i) ⟨rfl, rfl⟩
    | scanComplete i samples => exact row (scanComplete_sameLine s i samples)
    | baselineLearn => exact row (baselineLearn_sameLine s)
    | channelBlockEnd => exact row (channelBlockEnd_sameLine s)
    | pressConfirm i j => exact row (pressConfirm_work i j 0 s).sameLine
    | releaseConfirm i j => exact row (releaseConfirm_work i j 0 s).sameLine
    | stuckExit i j => exact row (stuckExit_work i j 0 s).sameLine
    | panelStuck i j => exact row (panelStuck_work i j 0 s).sameLine
    | occupancyVacant i => exact row (occupancyVacant_work i 0 s).sameLine
    | serviceCombo i => exact row (serviceCombo_work i 0 s).sameLine
    | _ => cases hf

theorem onMicro_lineWork {f : State → State} (h : ∀ u : State, u.LineWork (f u)) : s.LineWork (onMicro f s) := by
  unfold onMicro
  split <;> [exact h s; exact .refl s]

theorem beginMicro_lineWork : s.LineWork (beginMicro s) := by
  have hscan : s.LineWork (scanIfDue s) := by unfold scanIfDue; split <;> exact ⟨rfl, id⟩
  have hpwm : ∀ u : State, u.LineWork (pwmIfDue u) := fun u => by unfold pwmIfDue; split <;> exact ⟨rfl, id⟩
  have hlatch : ∀ u : State, u.LineWork (latchIfDue u) := fun u => by unfold latchIfDue; split <;> exact ⟨rfl, id⟩
  exact (hscan.trans (hpwm _)).trans (hlatch _)

theorem endMicro_lineWork : s.LineWork (endMicro s) := (holdoverTick_sameLine s).lineWork.trans ⟨rfl, id⟩

theorem lossTick_lineWork : s.LineWork (lossTick s) := by
  unfold lossTick
  split
  next => exact .refl s
  next => split <;> [exact (lossTimerExpiry_sameLine s).lineWork; exact ⟨rfl, id⟩]

theorem gapTick_lineWork : s.LineWork (gapTick s) := by
  unfold gapTick
  split
  next => exact .refl s
  next => split <;> [exact gapTimeout_lineWork s; exact ⟨rfl, id⟩]

theorem sendTick_lineWork : s.LineWork (sendTick s) := by
  unfold sendTick
  split
  next => exact .refl s
  next => split <;> [exact txFrameEnd_lineWork s; exact ⟨rfl, id⟩]

theorem crystalPeriod_lineWork : s.LineWork (crystalPeriod s) := by
  have hopened := (txFrameBegin_lineWork s).trans (onMicro_lineWork _ beginMicro_lineWork)
  have hpassed : s.LineWork (onMicro beginMicro (txFrameBegin s)).nextPeriod := hopened.trans ⟨rfl, id⟩
  exact (((hpassed.trans (onMicro_lineWork _ endMicro_lineWork)).trans (lossTick_lineWork _)).trans (gapTick_lineWork _)).trans
    (sendTick_lineWork _)

end

/-- Settles O3: the part has no faults, and an event of a part that stands still does nothing. -/
theorem everyCommandCompletes : Obligations.EveryCommandCompletes := by
  refine ⟨fun c s => ⟨s.runs c, exec_eq_runs c s, (runs_lineWork s c).pending⟩, fun c s hstill hon hloss hassert hrelease => ?_⟩
  have still : ∀ f : State → State, Host.Outcome.next (φ := Fault) (ρ := Refusal) (whenLive f s) = .next s := fun f =>
    congrArg Host.Outcome.next (whenLive_still hstill)
  cases c with
  | powerOn => exact absurd rfl hon
  | powerLoss => exact absurd rfl hloss
  | pinResetAssert => exact absurd rfl hassert
  | pinResetRelease => exact absurd rfl hrelease
  | _ => exact still _

/-- Settles O54: the report queue by the changes of the play blocks, the link port by every command and by the crystal period. -/
theorem everyStepKeepsTheLineBounded : Obligations.EveryStepKeepsTheLineBounded := by
  rintro s t ⟨hreports, hlink⟩ h
  refine ⟨step_keeps_play (P := fun p => p.reports.Bounded) (fun _ _ => PlayChange.reportsBounded) h hreports, ?_⟩
  unfold step at h
  split at h
  next =>
    obtain rfl := Host.Outcome.next.inj h
    exact (whenLive_lineWork s (crystalPeriod_lineWork s)).bounded hlink
  next c rest _ =>
    rw [exec_eq_runs] at h
    obtain rfl := Host.Outcome.next.inj h
    exact (runs_lineWork { s with pending := rest } c).bounded hlink

end Sys2Proof.Machine

/-! ## The receiver and the transmitter, row by row (O8, O10, O12) -/

namespace Sys2Proof.Machine

/-! ### The line in (R169, R170) -/

/-- Settles O8, by the receiver's state and the byte. -/
theorem receiverTakesTheBytesOfAFrame : Obligations.ReceiverTakesTheBytesOfAFrame := by
  intro s b hlive
  have hbyte : ∀ {t : State}, rxByte b s = t → exec (.rxByte b) s = .next t := fun h =>
    congrArg Host.Outcome.next ((whenLive_live hlive).trans h)
  refine ⟨fun hrx hb => hbyte (rxByte_noise hrx hb), fun hrx hb => ?_, fun hrx hb => hbyte (rxByte_length hrx hb),
    fun hrx hb => hbyte (rxByte_badLength hrx hb), fun len rest hrx hpart => hbyte (rxByte_within hrx hpart)⟩
  subst hb
  exact hbyte (rxByte_sync hrx)

/-- A complete frame whose check does not match is counted (R170, R178). -/
theorem takeFrame_bad {len : Byte} {bytes : List Byte} (s : State)
    (h : bytes.drop (len.toNat + 2) ≠ crcBytes (len :: bytes.take (len.toNat + 2))) :
    takeFrame (len :: bytes) s = s.modLink fun l => { l with crcErrors := satAdd l.crcErrors 1 } := by
  have hcount : field (len :: bytes) 0 1 = len.toNat := by simp [field, leNat]
  have hcheck : (len :: bytes).drop (len.toNat + 3) ≠ crcBytes ((len :: bytes).take (len.toNat + 3)) := h
  simp only [takeFrame, hcount, if_neg hcheck]

/-- Settles O10: a frame's last byte, with its check bad, and the gap timer by the receiver's state. -/
theorem brokenFramesAreDroppedAndCounted : Obligations.BrokenFramesAreDroppedAndCounted := by
  refine ⟨fun s len rest b hlive hrx hlast hbad => ?_, fun s hlive => ⟨fun bytes hrx => ?_, fun hrx => ?_⟩⟩
  all_goals refine congrArg Host.Outcome.next ((whenLive_live hlive).trans ?_)
  · rw [rxByte_last hrx (by omega), List.cons_append, takeFrame_bad _ hbad]
    rfl
  · simp only [gapTimeout, hrx]
    rfl
  · simp only [gapTimeout, hrx]

/-! ### The line out (R170, R174) -/

/-- The transmitter's choice is that of the table, after the idle time that the line still asks for. -/
theorem chooseFrame_chose (s : State) (extra : Nat) :
    s.Chose extra (chooseFrame { s with link := { s.link with rest := extra } }) := by
  unfold State.Chose chooseFrame
  dsimp only
  cases s.link.replies with
  | nil => cases s.play.reports.records <;> rfl
  | cons r rs =>
    cases s.play.reports.records with
    | nil => rfl
    | cons q qs =>
      have hrun : Config.replyRunMax = 4 := rfl
      dsimp only
      rw [hrun]
      split <;> rfl

/-- The level of TXD in a byte: its place in the frame and the bit under way follow from the crystal periods that are left. -/
theorem pinTxd_bit {s : State} (hlive : s.live = true) {bytes : List Byte} {left : Nat}
    (htx : s.link.tx = .sending bytes left) {b : Byte} {k bit past : Nat} (hb : bytes[k]? = some b) (hbit : bit < 10)
    (hpast : past < 12) (hleft : left + 120 * k + 12 * bit + past = 120 * bytes.length) :
    s.pinTxd = byteBit b bit := by
  have hperiods : framePeriods bytes = 120 * bytes.length := rfl
  have hbegun : ¬ 120 * bytes.length < left := by omega
  have hplace : (120 * bytes.length - left) / Config.bitTime = 10 * k + bit := by unfold Config.bitTime; omega
  have hbyte : (10 * k + bit) / Config.byteBits = k := by unfold Config.byteBits; omega
  have hin : (10 * k + bit) % Config.byteBits = bit := by unfold Config.byteBits; omega
  simp only [State.pinTxd, htx, hlive, hperiods, hplace, hbyte, hin, decide_eq_false hbegun, List.getD_eq_getElem?_getD, hb]
  rfl

theorem byteBit_eq (b : Byte) {bit : Nat} (h : bit < 10) :
    byteBit b bit = if bit = 0 then false else if bit = 9 then true else b.getLsbD (bit - 1) := by
  unfold byteBit
  split
  next => rfl
  next =>
    by_cases hstop : bit = 9
    · rw [if_pos hstop, if_neg (by omega)]
    · rw [if_neg hstop, if_pos (by omega)]

theorem pinTxd_still {s : State} (h : s.live = false) : s.pinTxd = true := by
  unfold State.pinTxd
  split
  next => rfl
  next => simp [h]

theorem txFrameBegin_idle {s : State} (h : s.link.tx = .idle) : txFrameBegin s = chooseFrame s := by
  simp only [txFrameBegin, h]

/-- Settles O12: both rows by the one choice, and TXD by the bit under way. -/
theorem transmitterChoosesByTheTable : Obligations.TransmitterChoosesByTheTable := by
  intro s hlive
  have hrow : ∀ {f : State → State} {t : State}, f s = t →
      (.next (whenLive f s) : Host.Outcome State Fault Refusal) = .next t := fun h =>
    congrArg Host.Outcome.next ((whenLive_live hlive).trans h)
  refine ⟨fun htx => ⟨_, hrow (txFrameBegin_idle htx), chooseFrame_chose s s.link.rest⟩,
    fun bytes left htx => ⟨_, hrow ?finish, chooseFrame_chose s 12⟩,
    fun bytes left htx => hrow ?busy, fun htx => hrow ?rest, fun htx => ?idle, fun bytes left htx hwait => ?wait,
    fun bytes left b k bit past htx hb hbit hpast hleft => ?bit, fun u hu => pinTxd_still hu⟩
  case finish =>
    simp only [txFrameEnd, htx]
    rfl
  case busy => simp only [txFrameBegin, htx]
  case rest => simp only [txFrameEnd, htx]
  case idle => simp only [State.pinTxd, htx]
  case wait =>
    have hperiods : framePeriods bytes = 120 * bytes.length := rfl
    simp only [State.pinTxd, htx, hperiods, decide_eq_true hwait, Bool.or_true, if_true]
  case bit => rw [pinTxd_bit hlive htx hb hbit hpast hleft, byteBit_eq b hbit]

end Sys2Proof.Machine

/-! ## The queue, supply and reset, and the link counters (O1, O4, O5, O17) -/

namespace Sys2Proof.Machine

/-- Settles O1, by the head of the queue. -/
theorem stepRunsFrontCommand : Obligations.StepRunsFrontCommand := by
  intro s c rest h
  unfold step
  rw [h]

/-- Settles O4: POWER_ON always restarts the part; PIN_RESET_RELEASE by the pin and the supply. -/
theorem powerOnAndPinResetGivePowerOnValues : Obligations.PowerOnAndPinResetGivePowerOnValues := by
  refine ⟨fun s => rfl, fun s => ⟨fun hpin hsupply => ?_, fun hpin => ?_, fun hpin hsupply => ?_⟩⟩
  all_goals refine congrArg Host.Outcome.next ?_
  all_goals unfold pinResetRelease
  · rw [if_neg (by simp [hpin]), if_pos hsupply]
    rw [State.restart, hsupply]
    rfl
  · rw [if_pos hpin]
  · rw [if_neg (by simp [hpin]), if_neg (by simp [hsupply])]

/-- Settles O5: both cut the line by `Link.stop`. -/
theorem resetLowAndPowerLossCutTheLine : Obligations.ResetLowAndPowerLossCutTheLine := fun _ => ⟨rfl, rfl⟩

/-- Settles O17: the owner reads the counters after its own frame is counted. -/
theorem getLinkCountsReadsAndClears : Obligations.GetLinkCountsReadsAndClears := by
  rintro tag s ⟨hlive, hroom⟩
  refine congrArg Host.Outcome.next ((whenLive_live hlive).trans ?_)
  rw [serve_room hroom]
  rfl

end Sys2Proof.Machine

/-! ## A full report queue (O13) -/

namespace Sys2Proof.Machine

theorem ReportBody.isLow_iff (body : ReportBody) : body.isLow = true ↔
    ∃ (i : StationId) (j : PanelId) (stamp : Int), body = .press i j stamp ∨ body = .release i j stamp := by
  cases body <;> simp [ReportBody.isLow]

theorem dropOldestLow_append_low {front back : List Report} {x : Report} (hfront : ∀ y ∈ front, y.body.isLow = false)
    (hx : x.body.isLow = true) : dropOldestLow (front ++ x :: back) = some (front ++ back) := by
  induction front with
  | nil => exact if_pos hx
  | cons y ys ih =>
    obtain ⟨hy, hys⟩ := List.forall_mem_cons.mp hfront
    simp [dropOldestLow, hy, ih hys]

theorem dropOldestLow_none {l : List Report} (hl : ∀ y ∈ l, y.body.isLow = false) : dropOldestLow l = none := by
  induction l with
  | nil => rfl
  | cons y ys ih =>
    obtain ⟨hy, hys⟩ := List.forall_mem_cons.mp hl
    simp [dropOldestLow, hy, ih hys]

theorem ReportQueue.lose_eq (q : ReportQueue) : q.lose = { q with
    pendingLost := min 255 (q.pendingLost + 1), reportsLost := min 65535 (q.reportsLost + 1) } := rfl

theorem ReportQueue.push_full_low {q : ReportQueue} {r : Report} (hfull : 96 ≤ q.records.length)
    (hr : r.body.isLow = true) : q.push r = q.lose :=
  (if_neg (Nat.not_lt.mpr hfull)).trans (if_pos hr)

theorem ReportQueue.push_full_high {q : ReportQueue} {r : Report} (hfull : 96 ≤ q.records.length)
    (hr : r.body.isLow = false) :
    q.push r = { q.lose with records := (dropOldestLow q.records).getD q.records.tail ++ [r] } :=
  (if_neg (Nat.not_lt.mpr hfull)).trans (if_neg (Bool.eq_false_iff.mp hr))

/-- Settles O13, by room, by the record's class, and by whether a low-class record stands in the queue. -/
theorem fullReportQueueDisplacesByClass : Obligations.FullReportQueueDisplacesByClass := by
  refine ⟨ReportBody.isLow_iff, fun q r => ⟨ReportQueue.push_room r, fun hfull hr => ?low,
    fun front x back hfull hr hq hfront hx => ?oldestLow, fun x back hfull hr hq hhigh => ?oldest⟩⟩
  case low => rw [ReportQueue.push_full_low hfull hr, ReportQueue.lose_eq]
  case oldestLow =>
    rw [ReportQueue.push_full_high hfull hr, ReportQueue.lose_eq, hq, dropOldestLow_append_low hfront hx, Option.getD_some]
  case oldest =>
    rw [ReportQueue.push_full_high hfull hr, ReportQueue.lose_eq, dropOldestLow_none hhigh, Option.getD_none, hq,
      List.tail_cons]

end Sys2Proof.Machine
